-- ==== Sys2Proof/Word.lean ====
section
/-! DEFINITION. The widths of the parallel words and bytes of DQ2108-PD's ports (R65, R80, R81, R88). Bit 0 is the
least significant bit of each (R9). -/

namespace Sys2Proof

/-- One byte of the sample stream (R61). -/
abbrev Byte := BitVec 8

/-- One 16-bit word of the sample stream, as a bit pattern; its value is `toInt`, the signed reading `s16` of R10. -/
abbrev StreamWord := BitVec 16

/-- One 64-bit command word on the host command port (R80). -/
abbrev CmdWord := BitVec 64

/-- One 64-bit response word on the host command port (R81). -/
abbrev RspWord := BitVec 64

/-- The 56-bit operand field of a command and data field of a response (R80, R81). -/
abbrev Field56 := BitVec 56

/-- One 256-bit sample record on the consumer port (R88). -/
abbrev RecWord := BitVec 256

end Sys2Proof
end

