-- ==== Sys2Proof/Config.lean ====
section
/-! DEFINITION. The fixed parameters of R7, which no model may vary, and the two named parameters of R8, which a
machine carries in its state (`State.params`) so that a statement about every state holds at every value of them. -/

namespace Sys2Proof.Config

/-- R7: analog channels 0–7. -/
def N_ANALOG : Nat := 8

/-- R7: digital lines 0–6. -/
def N_DIGITAL : Nat := 7

/-- R7: rate-range codes 0–11. -/
def N_RANGES : Nat := 12

/-- R7: longest scan list. -/
def SL_MAX : Nat := 11

/-- R7: stream word width in bits. -/
def WORD_BITS : Nat := 16

/-- R7: numerator of the scan-rate arithmetic (R130). -/
def CLK_HZ : Nat := 60000000

/-- R7: least legal scan-rate register value (R131). -/
def SRATE_MIN : Nat := 375

/-- R7: greatest legal scan-rate register value (R131). -/
def SRATE_MAX : Nat := 655356

/-- R7: floor of the decode timeout in milliseconds (R140). -/
def TMO_FLOOR_MS : Nat := 5000

/-- R7: numerator of the decode timeout (R140). -/
def TMO_NUM : Nat := 3000

/-- R7: VOLT_FS is 10.0 / 32768 volts per count; this is its numerator (R241). -/
def VOLT_FS_NUM : Nat := 10

/-- R7: the denominator of VOLT_FS, so that a voltage has 15 fraction bits (R241). -/
def VOLT_FS_DEN : Nat := 32768

/-- R7: denominator of the rate conversion, so that a frequency has 16 fraction bits (R243). -/
def FREQ_DEN : Nat := 65536

/-- R7: the sentinel "no digitals in scan list" of the endo mask, decimal 127 (R161). -/
def ENDO_NONE : BitVec 7 := 127

/-- R8: ODD_BYTE_POLICY, what the Engine does with the last byte of a chunk of odd length (R201). -/
inductive OddBytePolicy where
  | carry
  | drop
  deriving DecidableEq, Repr

/-- R8: the two named parameters of the block. -/
structure Params where
  /-- ODD_BYTE_POLICY ∈ {carry, drop}. -/
  oddByte : OddBytePolicy
  /-- RATE_RANGE_CODE_BASE ∈ {0, 1}. -/
  rateRangeCodeBase : Fin 2
  deriving DecidableEq, Repr

/-- R8: the spec's defaults, carry and 0. -/
def Params.default : Params := { oddByte := .carry, rateRangeCodeBase := 0 }

end Sys2Proof.Config
end

