-- ==== Sys2Proof/Syntax.lean ====
section
/-! DEFINITION. The commands of DQ2108-PD: one constructor of `Instr` for each row of spec/opcode_table.json (R84),
its operand formats (R82), and the assembled form of a command with integer operands (R92). -/

namespace Sys2Proof

/-- R30: `analogFilterMode`, "one of {lastPoint, CICFilter, maximum, minimum}", in the listed order. -/
inductive FilterMode where
  | lastPoint
  | cicFilter
  | maximum
  | minimum
  deriving DecidableEq, Repr

/-- The operand formats of R82. -/
inductive Format where
  | N | X | R | H | V | F | P | WN | C | CR
  deriving DecidableEq, Repr

/-- The 22 host commands of R84, each operand at the width its format gives it (R82). -/
inductive Instr where
  /-- ENA idx, enableAnalog (R111). -/
  | ena (idx : BitVec 8)
  /-- DISA idx, disableAnalog (R112). -/
  | disa (idx : BitVec 8)
  /-- END idx, enableDigital (R113). -/
  | end_ (idx : BitVec 8)
  /-- DISD idx, disableDigital (R114). -/
  | disd (idx : BitVec 8)
  /-- ENR rng, enableRate (R115). -/
  | enr (rng : BitVec 4)
  /-- DISR, disableRate (R116). -/
  | disr
  /-- ENC, enableCount (R117). -/
  | enc
  /-- DISC, disableCount (R118). -/
  | disc
  /-- CNT, countEnabledInputs (R119). -/
  | cnt
  /-- SRATE hz, computeScanRateRegister (R132); hertz = hz / 65536 (R85). -/
  | srate (hz : BitVec 48)
  /-- SETDEC val, set decimationFactor (R134). -/
  | setdec (val : BitVec 16)
  /-- SETFILT flt, set analogFilterMode (R135). -/
  | setfilt (flt : FilterMode)
  /-- SETPS code, set packetSizeCode (R136). -/
  | setps (code : BitVec 3)
  /-- PKTW code, computePacketWordCount (R138). -/
  | pktw (code : BitVec 3)
  /-- RPP wc, n, computeRecordsPerPacket (R139). -/
  | rpp (wc : BitVec 16) (n : BitVec 8)
  /-- TMO, computeDecodeTimeoutMs (R141). -/
  | tmo
  /-- START, startScanning (R162). -/
  | start
  /-- STOP, stopScanning (R164). -/
  | stop
  /-- RDSL idx, read scan-list slot (R165). -/
  | rdsl (idx : BitVec 8)
  /-- RDREG idx, read host register (R166). -/
  | rdreg (idx : BitVec 8)
  /-- CVTV cnt, countToVoltage (R242). -/
  | cvtv (cnt : BitVec 16)
  /-- CVTF cnt, rng, rateCountToFrequency (R244). -/
  | cvtf (cnt : BitVec 16) (rng : BitVec 4)
  deriving DecidableEq, Repr

/-- R92: an `<hz>` operand as written: a decimal number `num / 10^places`, or `q:<integer>` giving operand[47:0]. -/
inductive HzLit where
  | decimal (num places : Nat)
  | q (n : Nat)
  deriving DecidableEq, Repr

/-- R92: a rate-range operand as written: a code, or the name `Hz<f>` of a range frequency. -/
inductive RngLit where
  | code (n : Nat)
  | hz (f : Nat)
  deriving DecidableEq, Repr

/-- R92: a filter-mode operand as written: a code or a name. -/
inductive FiltLit where
  | code (n : Nat)
  | name (m : FilterMode)
  deriving DecidableEq, Repr

/-- R92: a command as written, its operands integers of any size or names. The spelling of the text (decimal or
hexadecimal digits, commas) is outside this form. -/
inductive AsmCmd where
  | ena (idx : Nat)
  | disa (idx : Nat)
  | end_ (idx : Nat)
  | disd (idx : Nat)
  | enr (rng : RngLit)
  | disr
  | enc
  | disc
  | cnt
  | srate (hz : HzLit)
  | setdec (val : Nat)
  | setfilt (flt : FiltLit)
  | setps (code : Nat)
  | pktw (code : Nat)
  | rpp (wc n : Nat)
  | tmo
  | start
  | stop
  | rdsl (idx : Nat)
  | rdreg (idx : Nat)
  | cvtv (cnt : Int)
  | cvtf (cnt : Int) (rng : RngLit)
  deriving DecidableEq, Repr

end Sys2Proof
end

