-- ==== Sys2Proof/WellFormed.lean ====
section
/-! DEFINITION. What is well formed: a command word (R83: its opcode assigned, its reserved bits 0) and a command as
written (R92: every operand fits its field, a hertz value exactly representable). A term of `Instr` has every operand
at its field's width, so each one is well formed as it stands. -/

namespace Sys2Proof

/-- One row of spec/opcode_table.json: a word belongs to it when its bits under the mask are the pattern. -/
structure TableRow where
  mnemonic : String
  format : Format
  pattern : CmdWord
  mask : CmdWord
  deriving DecidableEq, Repr

/-- R84: the rows of spec/opcode_table.json for channel configuration and rate arithmetic up to SETDEC. -/
def opcodeRowsA : List TableRow :=
  [ { mnemonic := "ENA", format := .X, pattern := 0x0100000000000000, mask := 0xFFFFFFFFFFFFFF00 },
    { mnemonic := "DISA", format := .X, pattern := 0x0200000000000000, mask := 0xFFFFFFFFFFFFFF00 },
    { mnemonic := "END", format := .X, pattern := 0x0300000000000000, mask := 0xFFFFFFFFFFFFFF00 },
    { mnemonic := "DISD", format := .X, pattern := 0x0400000000000000, mask := 0xFFFFFFFFFFFFFF00 },
    { mnemonic := "ENR", format := .R, pattern := 0x0500000000000000, mask := 0xFFFFFFFFFFFFFFF0 },
    { mnemonic := "DISR", format := .N, pattern := 0x0600000000000000, mask := 0xFFFFFFFFFFFFFFFF },
    { mnemonic := "ENC", format := .N, pattern := 0x0700000000000000, mask := 0xFFFFFFFFFFFFFFFF },
    { mnemonic := "DISC", format := .N, pattern := 0x0800000000000000, mask := 0xFFFFFFFFFFFFFFFF },
    { mnemonic := "CNT", format := .N, pattern := 0x0900000000000000, mask := 0xFFFFFFFFFFFFFFFF },
    { mnemonic := "SRATE", format := .H, pattern := 0x1000000000000000, mask := 0xFFFF000000000000 },
    { mnemonic := "SETDEC", format := .V, pattern := 0x1100000000000000, mask := 0xFFFFFFFFFFFF0000 } ]

/-- R84: the remaining rows of spec/opcode_table.json. -/
def opcodeRowsB : List TableRow :=
  [ { mnemonic := "SETFILT", format := .F, pattern := 0x1200000000000000, mask := 0xFFFFFFFFFFFFFFFC },
    { mnemonic := "SETPS", format := .P, pattern := 0x1300000000000000, mask := 0xFFFFFFFFFFFFFFF8 },
    { mnemonic := "PKTW", format := .P, pattern := 0x1400000000000000, mask := 0xFFFFFFFFFFFFFFF8 },
    { mnemonic := "RPP", format := .WN, pattern := 0x1500000000000000, mask := 0xFFFFFFFFFF000000 },
    { mnemonic := "TMO", format := .N, pattern := 0x1600000000000000, mask := 0xFFFFFFFFFFFFFFFF },
    { mnemonic := "START", format := .N, pattern := 0x2000000000000000, mask := 0xFFFFFFFFFFFFFFFF },
    { mnemonic := "STOP", format := .N, pattern := 0x2100000000000000, mask := 0xFFFFFFFFFFFFFFFF },
    { mnemonic := "RDSL", format := .X, pattern := 0x2200000000000000, mask := 0xFFFFFFFFFFFFFF00 },
    { mnemonic := "RDREG", format := .X, pattern := 0x2300000000000000, mask := 0xFFFFFFFFFFFFFF00 },
    { mnemonic := "CVTV", format := .C, pattern := 0x3000000000000000, mask := 0xFFFFFFFFFFFF0000 },
    { mnemonic := "CVTF", format := .CR, pattern := 0x3100000000000000, mask := 0xFFFFFFFFFFF00000 } ]

/-- R84: the opcode table, row by row as spec/opcode_table.json has it. -/
def opcodeTable : List TableRow := opcodeRowsA ++ opcodeRowsB

/-- The word is one of the row's words. -/
def TableRow.accepts (r : TableRow) (w : CmdWord) : Bool := w &&& r.mask == r.pattern

/-- R83: a legal command word: its opcode is assigned and its reserved operand bits are 0, that is, some row of the
opcode table accepts it. -/
def CmdWord.wf (w : CmdWord) : Bool := opcodeTable.any fun r => r.accepts w

/-- R92: a hertz literal that an assembler accepts: its value times 65536 is an integer, and it fits operand[47:0]. -/
def HzLit.wf : HzLit → Bool
  | .decimal num places => (num * 65536) % 10 ^ places == 0 && num * 65536 / 10 ^ places < 2 ^ 48
  | .q n => n < 2 ^ 48

/-- R92, R240: the frequencies in the names of the range codes, `Hz50000` to `Hz10`, code 0 first. -/
def rangeNames : List Nat := [50000, 20000, 10000, 5000, 2000, 1000, 500, 200, 100, 50, 20, 10]

/-- R92: a rate-range literal that fits its 4-bit field or is a name of R240. -/
def RngLit.wf : RngLit → Bool
  | .code n => n < 2 ^ 4
  | .hz f => rangeNames.contains f

/-- R92: a filter-mode literal that fits its 2-bit field or is a name. -/
def FiltLit.wf : FiltLit → Bool
  | .code n => n < 2 ^ 2
  | .name _ => true

/-- R92: "an assembler refuses … any operand that does not fit its field"; cnt is a value in [−32768, 32767] (R85). -/
def AsmCmd.wf : AsmCmd → Bool
  | .ena idx => idx < 2 ^ 8
  | .disa idx => idx < 2 ^ 8
  | .end_ idx => idx < 2 ^ 8
  | .disd idx => idx < 2 ^ 8
  | .enr rng => rng.wf
  | .disr => true
  | .enc => true
  | .disc => true
  | .cnt => true
  | .srate hz => hz.wf
  | .setdec val => val < 2 ^ 16
  | .setfilt flt => flt.wf
  | .setps code => code < 2 ^ 3
  | .pktw code => code < 2 ^ 3
  | .rpp wc n => wc < 2 ^ 16 && n < 2 ^ 8
  | .tmo => true
  | .start => true
  | .stop => true
  | .rdsl idx => idx < 2 ^ 8
  | .rdreg idx => idx < 2 ^ 8
  | .cvtv z => -32768 ≤ z && z ≤ 32767
  | .cvtf z rng => -32768 ≤ z && z ≤ 32767 && rng.wf

end Sys2Proof
end

