-- ==== Sys2Proof/Decode.lean ====
section
/-! DEFINITION. The decoder of a command word (R80–R84), total, rejecting by name; then the encoder (R93) and the
assembler on numbers (R92), written from the same tables. -/

namespace Sys2Proof

/-- Why a command word is illegal (R83). Both reasons answer IllegalCommand. -/
inductive Reject where
  /-- The opcode is not in the map of R84. -/
  | unassignedOpcode
  /-- A reserved operand bit of the opcode's format is 1. -/
  | reservedBits
  deriving DecidableEq, Repr

/-- R80: `opcode = cmd[63:56]`. -/
def cmdOpcode (w : CmdWord) : BitVec 8 := w.extractLsb' 56 8

/-- R80: `operand = cmd[55:0]`. -/
def cmdOperand (w : CmdWord) : Field56 := w.extractLsb' 0 56

/-- R82: how many operand bits a format uses. The fields of every format fill the operand from bit 0 up, so the
reserved bits are the ones from this number to 55. -/
def Format.width : Format → Nat
  | .N => 0
  | .X => 8
  | .R => 4
  | .H => 48
  | .V => 16
  | .F => 2
  | .P => 3
  | .WN => 24
  | .C => 16
  | .CR => 20

/-- R83: the reserved operand bits of the format are all 0. -/
def Format.reservedClear (f : Format) (operand : Field56) : Bool :=
  operand >>> f.width == 0

/-- R84: the format of an assigned opcode; none for an unassigned one. -/
def opcodeFormat (op : BitVec 8) : Option Format :=
  match op.toNat with
  | 0x01 => some .X
  | 0x02 => some .X
  | 0x03 => some .X
  | 0x04 => some .X
  | 0x05 => some .R
  | 0x06 => some .N
  | 0x07 => some .N
  | 0x08 => some .N
  | 0x09 => some .N
  | 0x10 => some .H
  | 0x11 => some .V
  | 0x12 => some .F
  | 0x13 => some .P
  | 0x14 => some .P
  | 0x15 => some .WN
  | 0x16 => some .N
  | 0x20 => some .N
  | 0x21 => some .N
  | 0x22 => some .X
  | 0x23 => some .X
  | 0x30 => some .C
  | 0x31 => some .CR
  | _ => none

/-- R30: the filter mode of a 2-bit code, in the listed order. -/
def FilterMode.ofCode (c : BitVec 2) : FilterMode :=
  match c.toNat with
  | 0 => .lastPoint
  | 1 => .cicFilter
  | 2 => .maximum
  | _ => .minimum

/-- R30: the 2-bit code of a filter mode. -/
def FilterMode.code : FilterMode → BitVec 2
  | .lastPoint => 0
  | .cicFilter => 1
  | .maximum => 2
  | .minimum => 3

/-- R82, R84: the command an assigned opcode and its operand stand for; every field taken from its bits. -/
def instrOf (op : BitVec 8) (x : Field56) : Option Instr :=
  match op.toNat with
  | 0x01 => some (.ena (x.extractLsb' 0 8))
  | 0x02 => some (.disa (x.extractLsb' 0 8))
  | 0x03 => some (.end_ (x.extractLsb' 0 8))
  | 0x04 => some (.disd (x.extractLsb' 0 8))
  | 0x05 => some (.enr (x.extractLsb' 0 4))
  | 0x06 => some .disr
  | 0x07 => some .enc
  | 0x08 => some .disc
  | 0x09 => some .cnt
  | 0x10 => some (.srate (x.extractLsb' 0 48))
  | 0x11 => some (.setdec (x.extractLsb' 0 16))
  | 0x12 => some (.setfilt (FilterMode.ofCode (x.extractLsb' 0 2)))
  | 0x13 => some (.setps (x.extractLsb' 0 3))
  | 0x14 => some (.pktw (x.extractLsb' 0 3))
  | 0x15 => some (.rpp (x.extractLsb' 0 16) (x.extractLsb' 16 8))
  | 0x16 => some .tmo
  | 0x20 => some .start
  | 0x21 => some .stop
  | 0x22 => some (.rdsl (x.extractLsb' 0 8))
  | 0x23 => some (.rdreg (x.extractLsb' 0 8))
  | 0x30 => some (.cvtv (x.extractLsb' 0 16))
  | 0x31 => some (.cvtf (x.extractLsb' 0 16) (x.extractLsb' 16 4))
  | _ => none

/-- R80, R83: read the opcode, select the format, check the reserved bits, take the fields. -/
def decode (w : CmdWord) : Except Reject Instr :=
  match opcodeFormat (cmdOpcode w) with
  | none => .error .unassignedOpcode
  | some f =>
    if f.reservedClear (cmdOperand w) then
      match instrOf (cmdOpcode w) (cmdOperand w) with
      | some i => .ok i
      | none => .error .unassignedOpcode
    else .error .reservedBits

/-- The command word that a table word of `nbits` bits stands for: command words are parallel words with no byte order
(R63), so the table's numbering of the bits is the word's own. -/
def tableWord (nbits w : Nat) : CmdWord := BitVec.ofNat 64 (w % 2 ^ nbits)

/-- What the decoder reads from a table word (the host's question). -/
def decodeTableWord (nbits w : Nat) : Option Instr :=
  match decode (tableWord nbits w) with
  | .ok i => some i
  | .error _ => none

/-- R84: the opcode of a command. -/
def opcode : Instr → BitVec 8
  | .ena _ => 0x01
  | .disa _ => 0x02
  | .end_ _ => 0x03
  | .disd _ => 0x04
  | .enr _ => 0x05
  | .disr => 0x06
  | .enc => 0x07
  | .disc => 0x08
  | .cnt => 0x09
  | .srate _ => 0x10
  | .setdec _ => 0x11
  | .setfilt _ => 0x12
  | .setps _ => 0x13
  | .pktw _ => 0x14
  | .rpp _ _ => 0x15
  | .tmo => 0x16
  | .start => 0x20
  | .stop => 0x21
  | .rdsl _ => 0x22
  | .rdreg _ => 0x23
  | .cvtv _ => 0x30
  | .cvtf _ _ => 0x31

/-- R82, R93: the operand of a command, its fields at their bits and every reserved bit 0. -/
def operand : Instr → Field56
  | .ena idx => idx.setWidth 56
  | .disa idx => idx.setWidth 56
  | .end_ idx => idx.setWidth 56
  | .disd idx => idx.setWidth 56
  | .enr rng => rng.setWidth 56
  | .disr => 0
  | .enc => 0
  | .disc => 0
  | .cnt => 0
  | .srate hz => hz.setWidth 56
  | .setdec val => val.setWidth 56
  | .setfilt flt => flt.code.setWidth 56
  | .setps code => code.setWidth 56
  | .pktw code => code.setWidth 56
  | .rpp wc n => (n ++ wc).setWidth 56
  | .tmo => 0
  | .start => 0
  | .stop => 0
  | .rdsl idx => idx.setWidth 56
  | .rdreg idx => idx.setWidth 56
  | .cvtv cnt => cnt.setWidth 56
  | .cvtf cnt rng => (rng ++ cnt).setWidth 56

/-- R93: `cmd = {opcode[7:0], operand[55:0]}`. -/
def encode (i : Instr) : CmdWord := opcode i ++ operand i

/-- R92: the 48-bit operand of a hertz literal. -/
def HzLit.operand : HzLit → BitVec 48
  | .decimal num places => BitVec.ofNat 48 (num * 65536 / 10 ^ places)
  | .q n => BitVec.ofNat 48 n

/-- R92, R240: the 4-bit code of a rate-range literal; a name stands for its place in the list. -/
def RngLit.operand : RngLit → BitVec 4
  | .code n => BitVec.ofNat 4 n
  | .hz f => BitVec.ofNat 4 (rangeNames.idxOf f)

/-- R92, R30: the filter mode of a filter-mode literal. -/
def FiltLit.mode : FiltLit → FilterMode
  | .code n => FilterMode.ofCode (BitVec.ofNat 2 n)
  | .name m => m

/-- R92: the fields of a command as written; a negative count becomes its 16-bit two's-complement pattern. -/
def AsmCmd.instr : AsmCmd → Instr
  | .ena idx => .ena (BitVec.ofNat 8 idx)
  | .disa idx => .disa (BitVec.ofNat 8 idx)
  | .end_ idx => .end_ (BitVec.ofNat 8 idx)
  | .disd idx => .disd (BitVec.ofNat 8 idx)
  | .enr rng => .enr rng.operand
  | .disr => .disr
  | .enc => .enc
  | .disc => .disc
  | .cnt => .cnt
  | .srate hz => .srate hz.operand
  | .setdec val => .setdec (BitVec.ofNat 16 val)
  | .setfilt flt => .setfilt flt.mode
  | .setps code => .setps (BitVec.ofNat 3 code)
  | .pktw code => .pktw (BitVec.ofNat 3 code)
  | .rpp wc n => .rpp (BitVec.ofNat 16 wc) (BitVec.ofNat 8 n)
  | .tmo => .tmo
  | .start => .start
  | .stop => .stop
  | .rdsl idx => .rdsl (BitVec.ofNat 8 idx)
  | .rdreg idx => .rdreg (BitVec.ofNat 8 idx)
  | .cvtv z => .cvtv (BitVec.ofInt 16 z)
  | .cvtf z rng => .cvtf (BitVec.ofInt 16 z) rng.operand

/-- R92, R93: the command word an assembler makes of a command as written, or its refusal. -/
def assemble (a : AsmCmd) : Option CmdWord :=
  if a.wf then some (encode a.instr) else none

end Sys2Proof
end

