-- ==== Sys2Proof/Machine/State.lean ====
section
/-! DEFINITION. The state of DQ2108-PD (10_state.md, R20–R42, under the spec's own names), the input and output fields
of its ports, why a step can stop, and the state after reset (R290, R291). -/

namespace Sys2Proof.Machine

/-- R86: a scan-list entry, "tagged variant over {Analog(channelIndex 0–7), Digitals, Rate, Count}". Tags 11–15 are
never stored, so no entry has them (entry 10 of the assumption log). -/
inductive Entry where
  | analog (c : Fin 8)
  | digitals
  | rate
  | count
  deriving DecidableEq, Repr

/-- R32: ScanState. -/
inductive ScanState where
  | idle
  | scanning
  deriving DecidableEq, Repr

/-- R35: the Engine's control state. Codes 6 and 7 are never held, so no value has them (entry 10). -/
inductive Eng where
  | stopped
  | top
  | readPending
  | walk
  | waitConsumer
  | fatal
  deriving DecidableEq, Repr

/-- R37: the record accumulator. The 16-bit fields are the two's-complement patterns of signed counts. -/
structure Acc where
  A : Vector StreamWord 8
  D : Byte
  RT : StreamWord
  CT : StreamWord
  deriving DecidableEq, Repr

/-- R37: the cleared accumulator. -/
def Acc.zero : Acc := { A := Vector.replicate 8 0, D := 0, RT := 0, CT := 0 }

/-- R89: a record on the device-command port. -/
inductive DevCmd where
  | slist (slot : BitVec 4) (code : BitVec 16)
  | endo (mask : BitVec 7)
  | srate (reg : BitVec 20)
  | filter (code : BitVec 2)
  | dec (n : BitVec 16)
  | ps (code : BitVec 3)
  | start0
  | stop
  deriving DecidableEq, Repr

/-- R90: `Read(maxLength, timeoutMs)` on the transport port. -/
structure ReadReq where
  maxLength : Nat
  timeoutMs : BitVec 32
  deriving DecidableEq, Repr

/-- R6, R44, R70: one turn of an agent, with the choice the agent makes in it; and the reset event of R290. -/
inductive Turn where
  /-- The Host issues its next command, or its held START goes on (R162). -/
  | host
  /-- The Engine takes its loop top, a word step or the end of a buffer (R190). -/
  | engine
  /-- The Transport delivers `Chunk(b)` (R90). -/
  | transport (b : List Byte)
  /-- The Consumer answers `Answer(c)` (R91). -/
  | consumer (c : Bool)
  /-- Reset (R290). -/
  | reset
  deriving DecidableEq, Repr

/-- The state. Fields in capitals are the registers of 10_state.md; the others are the model's own (INVENTORY.md,
State; entries 1, 3, 4, 5 and 7 of the assumption log). NINPUTS and ENDO are derived (R26, R27). -/
structure State where
  /-- R21: analog channel enables. -/
  AEN : BitVec 8
  /-- R22: digital line enables. -/
  DEN : BitVec 7
  /-- R23: rate input enable. -/
  REN : Bool
  /-- R24: rate-range code. -/
  RRANGE : BitVec 4
  /-- R25: count input enable. -/
  CEN : Bool
  /-- R28: scan-rate register. -/
  SRATE : BitVec 20
  /-- R29: decimation factor. -/
  DEC : BitVec 16
  /-- R30: analog filter mode. -/
  FILT : FilterMode
  /-- R31: packet-size code. -/
  PSC : BitVec 3
  /-- R32: scan state. -/
  SCAN : ScanState
  /-- R33: the scan-list file. -/
  SL : Vector Entry 11
  /-- R33: how many slots of it are in use. -/
  SL_LEN : BitVec 4
  /-- R34: rate range of the session. -/
  SNAP_RANGE : BitVec 4
  /-- R34: packet words of the session. -/
  SNAP_W : BitVec 11
  /-- R34: decode timeout of the session, milliseconds. -/
  SNAP_TMO : BitVec 32
  /-- R35: Engine control state. -/
  ENG : Eng
  /-- R36: scan-list cursor. -/
  CUR : BitVec 4
  /-- R37: record accumulator. -/
  ACC : Acc
  /-- R38: a residual byte is held. -/
  RES_V : Bool
  /-- R38: the residual byte. -/
  RES_B : Byte
  /-- R39: chunk buffer, byte 0 first. -/
  BUF : List Byte
  /-- R39: its length. -/
  BLEN : BitVec 12
  /-- R39: the walk position. -/
  POS : BitVec 12
  /-- R40: number of the next record. -/
  PKT : BitVec 64
  /-- R41: the record register. -/
  OUT : RecWord
  /-- R42: the device-command port log. -/
  DEVQ : List DevCmd
  /-- R162, R295: a START has passed its checks and holds until ENG = STOPPED. -/
  held : Bool
  /-- R8: the named parameters; no step writes them. -/
  params : Config.Params
  /-- R70: the agents' turns still to come, oldest first. -/
  turns : List Turn
  /-- R6: the command words the Host has still to issue, oldest first. -/
  cmds : List CmdWord
  /-- R81: the responses given, oldest first. -/
  rsps : List RspWord
  /-- R90: the reads issued, oldest first. -/
  reads : List ReadReq
  /-- R91: the records presented, oldest first. -/
  recs : List RecWord
  /-- R91: the Consumer's answers, oldest first; the k-th answers the k-th record. -/
  answers : List Bool
  deriving DecidableEq, Repr

/-- Why a step can stop with a fault. The spec has no fault that stops the machine (an error is a response, R261; the
fatal Engine is a state, R205); both faults below lie outside the invariant of Safety.lean (entry 8). -/
inductive Fault where
  /-- Raised by the Engine's word step when CUR names a slot that the scan-list file does not have (R60: slots 0–10).
  Safe: the model stops where the spec gives no meaning. -/
  | scanListSlot
  /-- Raised by the Engine's word step or end of buffer when POS addresses a byte that BUF does not hold (R60: byte
  addresses 0 to BLEN − 1). Safe: the model stops where the spec gives no meaning. -/
  | bufferAddress
  deriving DecidableEq, Repr

/-- Why a step can be refused. -/
inductive Refusal where
  /-- Raised by `exec` for a command that has no meaning in the model. Safe. No arm raises it: every command has its
  meaning. -/
  | notModelled (mnemonic : String)
  deriving DecidableEq, Repr

/-- R290, R291: every register at its reset value; no turn, no command and no port transaction yet. -/
def State.reset : State where
  AEN := 0
  DEN := 0
  REN := false
  RRANGE := 0
  CEN := false
  SRATE := 0
  DEC := 1
  FILT := .lastPoint
  PSC := 0
  SCAN := .idle
  SL := Vector.replicate 11 (.analog 0)
  SL_LEN := 0
  SNAP_RANGE := 0
  SNAP_W := 8
  SNAP_TMO := 5000
  ENG := .stopped
  CUR := 0
  ACC := Acc.zero
  RES_V := false
  RES_B := 0
  BUF := []
  BLEN := 0
  POS := 0
  PKT := 0
  OUT := 0
  DEVQ := []
  held := false
  params := Config.Params.default
  turns := []
  cmds := []
  rsps := []
  reads := []
  recs := []
  answers := []

end Sys2Proof.Machine
end

