-- ==== Sys2Proof/Machine/Operands.lean ====
section
/-! DEFINITION. Operand forms and number forms (R9, R10, R12, R85): how a command's operand, a stream word and a
response's data field are read as numbers. -/

namespace Sys2Proof.Machine

/-- R10, R85: `s16(b)`, the signed value of a 16-bit pattern, in [−32768, 32767]. -/
def s16 (b : StreamWord) : Int := b.toInt

/-- R10: `zext_56` of an unsigned value. -/
def zext56 (n : Nat) : Field56 := BitVec.ofNat 56 n

/-- R10: `sext_56` of a signed value, its 56-bit two's-complement pattern. -/
def sext56 (z : Int) : Field56 := BitVec.ofInt 56 z

/-- R10: a one-bit register as a number. -/
def bit (b : Bool) : Nat := if b then 1 else 0

/-- R12: `round_ha(a, b)`, a/b rounded to nearest, ties away from zero, for a ≥ 0 and b > 0. -/
def roundHa (a b : Nat) : Nat := (2 * a + b) / (2 * b)

/-- R61, R196: `Word(b0, b1) = s16({b1, b0})`, as a pattern; b0 is the byte received first. -/
def wordOf (b0 b1 : Byte) : StreamWord := b1 ++ b0

/-- R62: the digitals state of a word, its bits 15:8. -/
def highByte (w : StreamWord) : Byte := w.extractLsb' 8 8

/-- R9: bit c of an 8-bit register, set or cleared. -/
def writeBit8 (r : BitVec 8) (c : Nat) (v : Bool) : BitVec 8 :=
  if v then r ||| ((1 : BitVec 8) <<< c) else r &&& ~~~((1 : BitVec 8) <<< c)

/-- R9: bit c of a 7-bit register, set or cleared. -/
def writeBit7 (r : BitVec 7) (c : Nat) (v : Bool) : BitVec 7 :=
  if v then r ||| ((1 : BitVec 7) <<< c) else r &&& ~~~((1 : BitVec 7) <<< c)

/-- R86: the 4-bit tag of a scan-list entry. -/
def Entry.tag : Entry → BitVec 4
  | .analog c => BitVec.ofNat 4 c.val
  | .digitals => 8
  | .rate => 9
  | .count => 10

/-- R32: the bit of SCAN. -/
def ScanState.code : ScanState → Nat
  | .idle => 0
  | .scanning => 1

/-- R35: the code of ENG. -/
def Eng.code : Eng → Nat
  | .stopped => 0
  | .top => 1
  | .readPending => 2
  | .walk => 3
  | .waitConsumer => 4
  | .fatal => 5

end Sys2Proof.Machine
end

