-- ==== Sys2Proof/Machine/Flags.lean ====
section
/-! DEFINITION. The status-like values of R43, all of them computed and none of them stored: the status codes and the
response word (R81, R260), NINPUTS and ENDO (R26, R27), the session's scan list and which inputs it holds (R33, R209).
The block has no condition codes and no arithmetic flags. -/

namespace Sys2Proof.Machine

/-- R260: the status of a response. -/
inductive Status where
  | ok
  | invalidAnalogIndex
  | invalidDigitalIndex
  | noInputsConfigured
  | dataRateAboveMaximum
  | dataRateBelowMinimum
  | cannotConfigureWhileScanning
  | notScanning
  | illegalCommand
  | reservedValue
  | engineFatal
  deriving DecidableEq, Repr

/-- R260: the 8-bit status code; 11–255 are never returned. -/
def Status.code : Status → BitVec 8
  | .ok => 0
  | .invalidAnalogIndex => 1
  | .invalidDigitalIndex => 2
  | .noInputsConfigured => 3
  | .dataRateAboveMaximum => 4
  | .dataRateBelowMinimum => 5
  | .cannotConfigureWhileScanning => 6
  | .notScanning => 7
  | .illegalCommand => 8
  | .reservedValue => 9
  | .engineFatal => 10

/-- R81: the response word, `status = rsp[63:56]`, `data = rsp[55:0]`. -/
def rspWord (st : Status) (data : Field56) : RspWord := st.code ++ data

/-- R160: the enabled analog channels in ascending order. -/
def State.analogOn (s : State) : List (Fin 8) :=
  [0, 1, 2, 3, 4, 5, 6, 7].filter fun c => s.AEN.getLsbD c.val

/-- R26: `NINPUTS = popcount(AEN) + (DEN != 0 ? 1 : 0) + REN + CEN`. -/
def State.NINPUTS (s : State) : Nat :=
  s.analogOn.length + bit (s.DEN != 0) + bit s.REN + bit s.CEN

/-- R27: `ENDO = (~DEN) & 0x7F`, 7 bits wide. -/
def State.ENDO (s : State) : BitVec 7 := ~~~s.DEN

/-- R33: the slots in use, slot 0 first. -/
def State.slots (s : State) : List Entry := s.SL.toList.take s.SL_LEN.toNat

/-- R209: `in(e) = (exists i < SL_LEN : SL[i] = e)`. -/
def State.inList (s : State) (e : Entry) : Bool := s.slots.contains e

/-- R87: the 16-bit slist source code of an entry; the rate entry's carries SNAP_RANGE and RATE_RANGE_CODE_BASE. -/
def State.sourceCode (s : State) : Entry → BitVec 16
  | .analog c => BitVec.ofNat 16 c.val
  | .digitals => 8
  | .rate => BitVec.ofNat 16 (9 + (s.SNAP_RANGE.toNat + s.params.rateRangeCodeBase.val) * 256)
  | .count => 10

end Sys2Proof.Machine
end

