-- ==== Sys2Proof/Machine/Ops.lean ====
section
/-! DEFINITION. The named operations that commands and Engine steps share: answering a command, with success or with an
error (the block's whole exception handling, R261, R265), the mutator gate, the device-command, transport and consumer
ports, the chunk buffer and the scan-list file. -/

namespace Sys2Proof.Machine

/-- R11, R81: `respond(status, data)`, one response word on the host command port. -/
def State.respond (s : State) (st : Status) (data : Field56) : State :=
  { s with rsps := s.rsps ++ [rspWord st data] }

/-- R11, R261: `raise <Status>` is `respond(<Status>, 0)` and changes no state. The block has no other exception entry
and no return from one (R265). -/
def State.raise (s : State) (st : Status) : State := s.respond st 0

/-- R110: the mutator gate, tested before any operand check. -/
def gated (s : State) (body : Host.Outcome State Fault Refusal) : Host.Outcome State Fault Refusal :=
  if s.SCAN = .scanning then .next (s.raise .cannotConfigureWhileScanning) else body

/-- R11, R42: `emit` device command records, in order, on the device-command port. -/
def State.emit (s : State) (ds : List DevCmd) : State :=
  { s with DEVQ := s.DEVQ ++ ds }

/-- R90, R191: `issue Read(2 * SNAP_W, SNAP_TMO)` on the transport port. -/
def State.issueRead (s : State) : State :=
  { s with reads := s.reads ++ [{ maxLength := 2 * s.SNAP_W.toNat, timeoutMs := s.SNAP_TMO }] }

/-- R11, R200: `present(OUT)` on the consumer port. -/
def State.present (s : State) : State :=
  { s with recs := s.recs ++ [s.OUT] }

/-- R91: the Consumer's answer to the presented record. -/
def State.answered (s : State) (c : Bool) : State :=
  { s with answers := s.answers ++ [c] }

/-- R39, R194: `BUF <- bs; BLEN <- |BUF|; POS <- 0`. -/
def State.loadBuffer (s : State) (bs : List Byte) : State :=
  { s with BUF := bs, BLEN := BitVec.ofNat 12 bs.length, POS := 0 }

/-- R39, R201, R203: `BLEN <- 0; POS <- 0`, the buffer empty. -/
def State.dropBuffer (s : State) : State :=
  { s with BUF := [], BLEN := 0, POS := 0 }

/-- R38: `RES_V <- 0; RES_B <- 0`. -/
def State.clearResidual (s : State) : State :=
  { s with RES_V := false, RES_B := 0 }

/-- R160: a scan-list file holding the entries from slot 0 up, unused slots cleared (tag 0). -/
def fillSlots (l : List Entry) : Vector Entry 11 :=
  ⟨((l ++ List.replicate 11 (Entry.analog 0)).take 11).toArray, by simp⟩

/-- R198: `Update(e, w)` writes one accumulator field. -/
def Acc.update (a : Acc) (e : Entry) (w : StreamWord) : Acc :=
  match e with
  | .analog c => { a with A := a.A.set c.val w c.isLt }
  | .digitals => { a with D := highByte w }
  | .rate => { a with RT := w }
  | .count => { a with CT := w }

end Sys2Proof.Machine
end

