-- ==== Sys2Proof/Machine/Channel.lean ====
section
/-! DEFINITION. The channel configuration commands (40_channel_config.md): ENA, DISA, END, DISD, ENR, DISR, ENC, DISC,
CNT. -/

namespace Sys2Proof.Machine

/-- ENA and DISA share their shape (R111, R112): gate, index check, one bit of AEN. -/
def setAnalog (idx : BitVec 8) (v : Bool) (s : State) : Host.Outcome State Fault Refusal :=
  gated s
    (if idx.toNat > 7 then .next (s.raise .invalidAnalogIndex)
    else .next ({ s with AEN := writeBit8 s.AEN idx.toNat v }.respond .ok 0))

/-- END and DISD share their shape (R113, R114): gate, index check, one bit of DEN. -/
def setDigital (idx : BitVec 8) (v : Bool) (s : State) : Host.Outcome State Fault Refusal :=
  gated s
    (if idx.toNat > 6 then .next (s.raise .invalidDigitalIndex)
    else .next ({ s with DEN := writeBit7 s.DEN idx.toNat v }.respond .ok 0))

/-- R111: `ENA idx`, AEN[idx] ← 1. -/
def execEna (idx : BitVec 8) (s : State) : Host.Outcome State Fault Refusal :=
  setAnalog idx true s

/-- R112: `DISA idx`, AEN[idx] ← 0. -/
def execDisa (idx : BitVec 8) (s : State) : Host.Outcome State Fault Refusal :=
  setAnalog idx false s

/-- R113: `END idx`, DEN[idx] ← 1. -/
def execEnd (idx : BitVec 8) (s : State) : Host.Outcome State Fault Refusal :=
  setDigital idx true s

/-- R114: `DISD idx`, DEN[idx] ← 0. -/
def execDisd (idx : BitVec 8) (s : State) : Host.Outcome State Fault Refusal :=
  setDigital idx false s

/-- R115: `ENR rng`, REN ← 1 and RRANGE ← rng; codes 12–15 are refused. -/
def execEnr (rng : BitVec 4) (s : State) : Host.Outcome State Fault Refusal :=
  gated s
    (if rng.toNat > 11 then .next (s.raise .reservedValue)
    else .next ({ s with REN := true, RRANGE := rng }.respond .ok 0))

/-- R116: `DISR`, REN ← 0; RRANGE is unchanged. -/
def execDisr (s : State) : Host.Outcome State Fault Refusal :=
  gated s (.next ({ s with REN := false }.respond .ok 0))

/-- R117: `ENC`, CEN ← 1. -/
def execEnc (s : State) : Host.Outcome State Fault Refusal :=
  gated s (.next ({ s with CEN := true }.respond .ok 0))

/-- R118: `DISC`, CEN ← 0. -/
def execDisc (s : State) : Host.Outcome State Fault Refusal :=
  gated s (.next ({ s with CEN := false }.respond .ok 0))

/-- R119: `CNT` answers NINPUTS; no mutator, accepted in every state. -/
def execCnt (s : State) : Host.Outcome State Fault Refusal :=
  .next (s.respond .ok (zext56 s.NINPUTS))

end Sys2Proof.Machine
end

