-- ==== Sys2Proof/Machine/Record.lean ====
section
/-! DEFINITION. The sample record: its fields (R14, R209), its 256-bit layout on the record bus (R88) and the reading
of a record word back into fields. -/

namespace Sys2Proof.Machine

/-- The source's `SampleRecord` (R88, R209): optional fields, the rate range in effect and the packet number. -/
structure SampleRecord where
  PKTNO : BitVec 64
  A : Vector (Option StreamWord) 8
  DIG : Option Byte
  RT : Option StreamWord
  CT : Option StreamWord
  RANGE : BitVec 4
  deriving DecidableEq, Repr

/-- R88: the value bits of a field, 0 when it is absent. -/
def fieldBits {w : Nat} (f : Option (BitVec w)) : BitVec w := f.getD 0

/-- R88: the presence bit of a field. -/
def presenceBit {w : Nat} (f : Option (BitVec w)) : BitVec 1 := BitVec.ofBool f.isSome

/-- R88: PA[7:0], bits [243:236]. -/
def SampleRecord.presenceA (r : SampleRecord) : BitVec 8 :=
  presenceBit (r.A.get 7) ++ presenceBit (r.A.get 6) ++ presenceBit (r.A.get 5) ++ presenceBit (r.A.get 4)
    ++ presenceBit (r.A.get 3) ++ presenceBit (r.A.get 2) ++ presenceBit (r.A.get 1) ++ presenceBit (r.A.get 0)

/-- R88: A[7..0], bits [191:64]. -/
def SampleRecord.valuesA (r : SampleRecord) : BitVec 128 :=
  fieldBits (r.A.get 7) ++ fieldBits (r.A.get 6) ++ fieldBits (r.A.get 5) ++ fieldBits (r.A.get 4)
    ++ fieldBits (r.A.get 3) ++ fieldBits (r.A.get 2) ++ fieldBits (r.A.get 1) ++ fieldBits (r.A.get 0)

/-- R88: the record as a 256-bit word, from bit 255 down: nine 0 bits, PC, PR, PD, PA, RANGE, CT, RT, DIG, A, PKTNO. -/
def SampleRecord.pack (r : SampleRecord) : RecWord :=
  (0 : BitVec 9) ++ presenceBit r.CT ++ presenceBit r.RT ++ presenceBit r.DIG ++ r.presenceA ++ r.RANGE
    ++ fieldBits r.CT ++ fieldBits r.RT ++ fieldBits r.DIG ++ r.valuesA ++ r.PKTNO

/-- R14, R88: the field whose presence bit is `w[p]` and whose value bits start at bit `lo`. -/
def fieldAt (w : RecWord) (p lo n : Nat) : Option (BitVec n) :=
  if w.getLsbD p then some (w.extractLsb' lo n) else none

/-- R88: the fields of a record word. -/
def unpackRecord (w : RecWord) : SampleRecord where
  PKTNO := w.extractLsb' 0 64
  A := #v[fieldAt w 236 64 16, fieldAt w 237 80 16, fieldAt w 238 96 16, fieldAt w 239 112 16,
    fieldAt w 240 128 16, fieldAt w 241 144 16, fieldAt w 242 160 16, fieldAt w 243 176 16]
  DIG := fieldAt w 244 192 8
  RT := fieldAt w 245 200 16
  CT := fieldAt w 246 216 16
  RANGE := w.extractLsb' 232 4

/-- R209: an accumulator field in a record: present when the session's scan list holds its entry. -/
def State.fieldOf {w : Nat} (s : State) (e : Entry) (v : BitVec w) : Option (BitVec w) :=
  if s.inList e then some v else none

/-- R209: `Rec()`. -/
def State.record (s : State) : SampleRecord where
  PKTNO := s.PKT
  A := #v[s.fieldOf (.analog 0) (s.ACC.A.get 0), s.fieldOf (.analog 1) (s.ACC.A.get 1),
    s.fieldOf (.analog 2) (s.ACC.A.get 2), s.fieldOf (.analog 3) (s.ACC.A.get 3),
    s.fieldOf (.analog 4) (s.ACC.A.get 4), s.fieldOf (.analog 5) (s.ACC.A.get 5),
    s.fieldOf (.analog 6) (s.ACC.A.get 6), s.fieldOf (.analog 7) (s.ACC.A.get 7)]
  DIG := s.fieldOf .digitals s.ACC.D
  RT := s.fieldOf .rate s.ACC.RT
  CT := s.fieldOf .count s.ACC.CT
  RANGE := s.SNAP_RANGE

end Sys2Proof.Machine
end

