-- ==== Sys2Proof/Machine/Conversion.lean ====
section
/-! DEFINITION. Value conversion (44_conversion.md): CVTV, CVTF, and the record-level forms a consumer applies. Results
are exact fixed-point integers (R13, R247). -/

namespace Sys2Proof.Machine

/-- R240: `rangeHz(k)`; none for k ≥ 12, where it does not exist. -/
def rangeHz (k : BitVec 4) : Option Nat :=
  [50000, 20000, 10000, 5000, 2000, 1000, 500, 200, 100, 50, 20, 10][k.toNat]?

/-- R241: `VoltQ15(count) = 10 * count`; the voltage is this over 32768. -/
def voltQ15 (count : Int) : Int := Config.VOLT_FS_NUM * count

/-- R243: `FreqQ16(count, k) = (count + 32768) * rangeHz(k)` for a range frequency; the frequency is this over 65536. -/
def freqQ16 (count : Int) (hz : Nat) : Nat := (count + 32768).toNat * hz

/-- R242: `CVTV cnt` answers the SQ.15 voltage, sign-extended to 56 bits, in every state. -/
def execCvtv (cnt : BitVec 16) (s : State) : Host.Outcome State Fault Refusal :=
  .next (s.respond .ok (sext56 (voltQ15 (s16 cnt))))

/-- R244: `CVTF cnt, rng` answers the UQ16.16 frequency; range codes 12–15 are refused. -/
def execCvtf (cnt : BitVec 16) (rng : BitVec 4) (s : State) : Host.Outcome State Fault Refusal :=
  match rangeHz rng with
  | none => .next (s.raise .reservedValue)
  | some hz => .next (s.respond .ok (zext56 (freqQ16 (s16 cnt) hz)))

/-- R245: `RecVoltage(r, c)` of a record word: Present exactly when PA[c] = 1. -/
def recVoltage (w : RecWord) (c : Fin 8) : Option Int :=
  ((unpackRecord w).A.get c).map fun a => voltQ15 (s16 a)

/-- R246: `RecFrequency(r)` of a record word, from its own RANGE: Present when PR = 1. Where RANGE is no code of R240,
which no record of the block has, there is no frequency (entry 11 of the assumption log). -/
def recFrequency (w : RecWord) : Option Nat :=
  match (unpackRecord w).RT, rangeHz (unpackRecord w).RANGE with
  | some rt, some hz => some (freqQ16 (s16 rt) hz)
  | _, _ => none

end Sys2Proof.Machine
end

