-- ==== Sys2Proof/Machine/RatePacket.lean ====
section
/-! DEFINITION. Rate and packet arithmetic (41_rate_packet.md): SRATE, SETDEC, SETFILT, SETPS, PKTW, RPP, TMO. All
arithmetic is exact on natural numbers; the only rounding is `roundHa` (R12). -/

namespace Sys2Proof.Machine

/-- R130: `ScanRateReg(H)` with hertz = H / 65536; none is +infinity (H = 0). -/
def scanRateReg (H : Nat) : Option Nat :=
  if H = 0 then none else some (roundHa (Config.CLK_HZ * 65536) H)

/-- R133: the achieved rate, the exact rational 60000000 / SRATE hertz, as numerator and denominator; none while SRATE
is 0. No command returns it; a host computes it from SRATE. -/
def State.achievedRate (s : State) : Option (Nat × Nat) :=
  if s.SRATE = 0 then none else some (Config.CLK_HZ, s.SRATE.toNat)

/-- R137: `PacketWords(code) = 8 << code`. -/
def packetWords (code : BitVec 3) : Nat := 8 <<< code.toNat

/-- R140: `DecodeTimeoutMs(S, W, N)` in milliseconds; 3000 / packetFrequency is (W·S) / (20000·N). -/
def decodeTimeoutMs (S W N : Nat) : Nat :=
  if S = 0 then Config.TMO_FLOOR_MS
  else max Config.TMO_FLOOR_MS (roundHa (W * S) (Config.CLK_HZ / Config.TMO_NUM * N))

/-- R132: `SRATE hz`; checks in the order gate, inputs, above maximum, below minimum (R262). -/
def execSrate (hz : BitVec 48) (s : State) : Host.Outcome State Fault Refusal :=
  gated s
    (if s.NINPUTS = 0 then .next (s.raise .noInputsConfigured)
    else
      match scanRateReg hz.toNat with
      | none => .next (s.raise .dataRateAboveMaximum)
      | some r =>
        if r > Config.SRATE_MAX then .next (s.raise .dataRateAboveMaximum)
        else if r < Config.SRATE_MIN then .next (s.raise .dataRateBelowMinimum)
        else .next ({ s with SRATE := BitVec.ofNat 20 r }.respond .ok (zext56 r)))

/-- R134: `SETDEC val`; 0 is refused. -/
def execSetdec (val : BitVec 16) (s : State) : Host.Outcome State Fault Refusal :=
  gated s
    (if val = 0 then .next (s.raise .reservedValue)
    else .next ({ s with DEC := val }.respond .ok 0))

/-- R135: `SETFILT flt`. -/
def execSetfilt (flt : FilterMode) (s : State) : Host.Outcome State Fault Refusal :=
  gated s (.next ({ s with FILT := flt }.respond .ok 0))

/-- R136: `SETPS code`. -/
def execSetps (code : BitVec 3) (s : State) : Host.Outcome State Fault Refusal :=
  gated s (.next ({ s with PSC := code }.respond .ok 0))

/-- R138: `PKTW code` answers the packet words of a code, in every state. -/
def execPktw (code : BitVec 3) (s : State) : Host.Outcome State Fault Refusal :=
  .next (s.respond .ok (zext56 (packetWords code)))

/-- R139: `RPP wc, n` answers the ratio wc / n unreduced, numerator in data[15:0] and denominator in data[23:16];
0/1 for n = 0. -/
def execRpp (wc : BitVec 16) (n : BitVec 8) (s : State) : Host.Outcome State Fault Refusal :=
  if n = 0 then .next (s.respond .ok (((1 : BitVec 8) ++ (0 : BitVec 16)).setWidth 56))
  else .next (s.respond .ok ((n ++ wc).setWidth 56))

/-- R141: `TMO` answers the decode timeout of SRATE, PSC and NINPUTS, in every state with an input enabled. -/
def execTmo (s : State) : Host.Outcome State Fault Refusal :=
  if s.NINPUTS = 0 then .next (s.raise .noInputsConfigured)
  else .next (s.respond .ok (zext56 (decodeTimeoutMs s.SRATE.toNat (packetWords s.PSC) s.NINPUTS)))

end Sys2Proof.Machine
end

