-- ==== Sys2Proof/Machine/ScanControl.lean ====
section
/-! DEFINITION. The scan-list builder, START, STOP and the two read commands (42_scan_control.md). -/

namespace Sys2Proof.Machine

/-- R160, R161: `BuildScanList()` as a list: analog channels ascending, digitals unless the endo mask is 127, rate,
count. -/
def State.scanList (s : State) : List Entry :=
  s.analogOn.map Entry.analog
    ++ (if s.ENDO ≠ Config.ENDO_NONE then [.digitals] else [])
    ++ (if s.REN then [.rate] else [])
    ++ (if s.CEN then [.count] else [])

/-- R163: the SLIST records of the slots from `lo` up to but not including `hi`, ascending. -/
def State.slistCmds (s : State) (lo hi : Nat) : List DevCmd :=
  (((s.slots.zipIdx).take hi).drop lo).map fun p => .slist (BitVec.ofNat 4 p.2) (s.sourceCode p.1)

/-- R163: `ConfigSequence()`, the records START emits, in order; read after SL and SNAP_RANGE are written. -/
def State.configSequence (s : State) : List DevCmd :=
  s.slistCmds 0 s.analogOn.length
    ++ [.endo s.ENDO]
    ++ s.slistCmds s.analogOn.length s.SL_LEN.toNat
    ++ [.srate s.SRATE]
    ++ (if s.AEN ≠ 0 then [.filter s.FILT.code, .dec s.DEC] else [])
    ++ [.ps s.PSC, .start0]

/-- R162: the registers START writes before it emits: scan list, snapshots, cleared decoder state. -/
def State.loadSession (s : State) : State :=
  { s with
    SL := fillSlots s.scanList
    SL_LEN := BitVec.ofNat 4 s.scanList.length
    SNAP_RANGE := s.RRANGE
    SNAP_W := BitVec.ofNat 11 (packetWords s.PSC)
    SNAP_TMO := BitVec.ofNat 32 (decodeTimeoutMs s.SRATE.toNat (packetWords s.PSC) s.NINPUTS)
    CUR := 0
    ACC := Acc.zero
    RES_V := false
    RES_B := 0
    BUF := []
    BLEN := 0
    POS := 0
    PKT := 0 }

/-- R162: the part of START after the hold, one atomic step. -/
def State.beginSession (s : State) : State :=
  let t := s.loadSession
  { t.emit t.configSequence with SCAN := .scanning, ENG := .top, held := false }.respond .ok 0

/-- R162: `START`. Its three checks come first, in this order; then it holds until ENG = STOPPED, and a held START is
past its checks (entry 5 of the assumption log). -/
def execStart (s : State) : Host.Outcome State Fault Refusal :=
  if s.held then
    if s.ENG = .stopped then .next s.beginSession else .next s
  else if s.SCAN = .scanning then .next (s.raise .cannotConfigureWhileScanning)
  else if s.NINPUTS = 0 then .next (s.raise .noInputsConfigured)
  else if s.ENG = .fatal then .next (s.raise .engineFatal)
  else if s.ENG = .stopped then .next s.beginSession
  else .next { s with held := true }

/-- R164: `STOP`; it does not write ENG. -/
def execStop (s : State) : Host.Outcome State Fault Refusal :=
  if s.SCAN = .idle then .next (s.raise .notScanning)
  else .next ({ s.emit [.stop] with SCAN := .idle }.respond .ok 0)

/-- R165: `RDSL idx`, source code in data[31:16], tag in data[3:0]. A slot that does not exist is refused like one past
SL_LEN (entry 8). -/
def execRdsl (idx : BitVec 8) (s : State) : Host.Outcome State Fault Refusal :=
  match s.slots[idx.toNat]? with
  | none => .next (s.raise .reservedValue)
  | some e => .next (s.respond .ok ((s.sourceCode e ++ (0 : BitVec 12) ++ e.tag).setWidth 56))

/-- R68: the host register space from 0x00 to 0x16 and the accumulator at 0x20 to 0x2A; none at an address not in the
map. -/
def State.hostReg (s : State) (a : BitVec 8) : Option Field56 :=
  match a.toNat with
  | 0x00 => some (s.AEN.setWidth 56)
  | 0x01 => some (s.DEN.setWidth 56)
  | 0x02 => some (zext56 (bit s.REN))
  | 0x03 => some (s.RRANGE.setWidth 56)
  | 0x04 => some (zext56 (bit s.CEN))
  | 0x05 => some (zext56 s.NINPUTS)
  | 0x06 => some (s.ENDO.setWidth 56)
  | 0x07 => some (s.SRATE.setWidth 56)
  | 0x08 => some (s.DEC.setWidth 56)
  | 0x09 => some (s.FILT.code.setWidth 56)
  | 0x0A => some (s.PSC.setWidth 56)
  | 0x0B => some (zext56 s.SCAN.code)
  | 0x0C => some (s.SL_LEN.setWidth 56)
  | 0x0D => some (s.SNAP_RANGE.setWidth 56)
  | 0x0E => some (s.SNAP_W.setWidth 56)
  | 0x0F => some (s.SNAP_TMO.setWidth 56)
  | 0x10 => some (zext56 s.ENG.code)
  | 0x11 => some (s.CUR.setWidth 56)
  | 0x12 => some ((BitVec.ofBool s.RES_V ++ s.RES_B).setWidth 56)
  | 0x13 => some ((s.PKT.extractLsb' 0 32).setWidth 56)
  | 0x14 => some ((s.PKT.extractLsb' 32 32).setWidth 56)
  | 0x15 => some (s.POS.setWidth 56)
  | 0x16 => some (s.BLEN.setWidth 56)
  | 0x20 => some ((s.ACC.A.get 0).setWidth 56)
  | 0x21 => some ((s.ACC.A.get 1).setWidth 56)
  | 0x22 => some ((s.ACC.A.get 2).setWidth 56)
  | 0x23 => some ((s.ACC.A.get 3).setWidth 56)
  | 0x24 => some ((s.ACC.A.get 4).setWidth 56)
  | 0x25 => some ((s.ACC.A.get 5).setWidth 56)
  | 0x26 => some ((s.ACC.A.get 6).setWidth 56)
  | 0x27 => some ((s.ACC.A.get 7).setWidth 56)
  | 0x28 => some (s.ACC.D.setWidth 56)
  | 0x29 => some (s.ACC.RT.setWidth 56)
  | 0x2A => some (s.ACC.CT.setWidth 56)
  | _ => none

/-- R166: `RDREG idx`. -/
def execRdreg (idx : BitVec 8) (s : State) : Host.Outcome State Fault Refusal :=
  match s.hostReg idx with
  | none => .next (s.raise .reservedValue)
  | some v => .next (s.respond .ok v)

end Sys2Proof.Machine
end

