-- ==== Sys2Proof/Machine/Dispatch.lean ====
section
/-! DEFINITION. What each command does: one direct call of its meaning per constructor of `Instr` (R84). -/

namespace Sys2Proof.Machine

def exec (i : Instr) (s : State) : Host.Outcome State Fault Refusal :=
  match i with
  | .ena idx => Sys2Proof.Machine.execEna idx s
  | .disa idx => Sys2Proof.Machine.execDisa idx s
  | .end_ idx => Sys2Proof.Machine.execEnd idx s
  | .disd idx => Sys2Proof.Machine.execDisd idx s
  | .enr rng => Sys2Proof.Machine.execEnr rng s
  | .disr => Sys2Proof.Machine.execDisr s
  | .enc => Sys2Proof.Machine.execEnc s
  | .disc => Sys2Proof.Machine.execDisc s
  | .cnt => Sys2Proof.Machine.execCnt s
  | .srate hz => Sys2Proof.Machine.execSrate hz s
  | .setdec val => Sys2Proof.Machine.execSetdec val s
  | .setfilt flt => Sys2Proof.Machine.execSetfilt flt s
  | .setps code => Sys2Proof.Machine.execSetps code s
  | .pktw code => Sys2Proof.Machine.execPktw code s
  | .rpp wc n => Sys2Proof.Machine.execRpp wc n s
  | .tmo => Sys2Proof.Machine.execTmo s
  | .start => Sys2Proof.Machine.execStart s
  | .stop => Sys2Proof.Machine.execStop s
  | .rdsl idx => Sys2Proof.Machine.execRdsl idx s
  | .rdreg idx => Sys2Proof.Machine.execRdreg idx s
  | .cvtv cnt => Sys2Proof.Machine.execCvtv cnt s
  | .cvtf cnt rng => Sys2Proof.Machine.execCvtf cnt rng s

end Sys2Proof.Machine
end

