-- ==== Sys2Proof/Machine/Engine.lean ====
section
/-! DEFINITION. The packet decoder engine (43_decoder.md): each of its steps (R190), and the moves of the Transport and
the Consumer that drive it. A turn given to an agent that has no step enabled passes (entry 2 of the assumption log). -/

namespace Sys2Proof.Machine

/-- R191: loop top. -/
def loopTop (s : State) : Host.Outcome State Fault Refusal :=
  if s.SCAN = .idle then .next { s with ENG := .stopped }
  else .next { s.issueRead with ENG := .readPending }

/-- R193, R194: a chunk arrives; a held residual byte becomes the low byte of its first word. -/
def chunkArrival (b : List Byte) (s : State) : Host.Outcome State Fault Refusal :=
  if b = [] then .next { s with ENG := .top }
  else if s.params.oddByte = .carry ∧ s.RES_V then
    .next { (s.loadBuffer (s.RES_B :: b)).clearResidual with ENG := .walk }
  else .next { s.loadBuffer b with ENG := .walk }

/-- R200: `EmitRecord()`. -/
def State.emitRecord (s : State) : State :=
  { { s with OUT := s.record.pack, PKT := s.PKT + 1 }.present with ENG := .waitConsumer }

/-- R199: `Advance()`. -/
def State.advance (s : State) : State :=
  if s.CUR + 1 = s.SL_LEN then { s with CUR := 0 }.emitRecord else { s with CUR := s.CUR + 1 }

/-- R195–R199: the word (b0, b1) is taken under the tag e. -/
def State.takeWord (s : State) (e : Entry) (b0 b1 : Byte) : State :=
  { s with POS := s.POS + 2, ACC := s.ACC.update e (wordOf b0 b1) }.advance

/-- R195: word step. A slot or a byte that does not exist is a fault (entry 8). -/
def wordStep (s : State) : Host.Outcome State Fault Refusal :=
  match s.BUF[s.POS.toNat]?, s.BUF[s.POS.toNat + 1]? with
  | some b0, some b1 =>
    match s.SL[s.CUR.toNat]? with
    | some e => .next (s.takeWord e b0 b1)
    | none => .fault .scanListSlot
  | _, _ => .fault .bufferAddress

/-- R201: end of buffer; a lone last byte is kept (carry) or discarded (drop). -/
def endOfBuffer (s : State) : Host.Outcome State Fault Refusal :=
  if s.BLEN.toNat = s.POS.toNat + 1 ∧ s.params.oddByte = .carry then
    match s.BUF[s.POS.toNat]? with
    | some b => .next { { s with RES_B := b, RES_V := true }.dropBuffer with ENG := .top }
    | none => .fault .bufferAddress
  else .next { s.dropBuffer with ENG := .top }

/-- R190: the Engine's turn: the step its control state enables, and none in READ_PENDING, WAIT_CONSUMER, STOPPED and
FATAL. -/
def engineTurn (s : State) : Host.Outcome State Fault Refusal :=
  match s.ENG with
  | .top => loopTop s
  | .walk => if s.BLEN.toNat < s.POS.toNat + 2 then endOfBuffer s else wordStep s
  | .readPending => .next s
  | .waitConsumer => .next s
  | .stopped => .next s
  | .fatal => .next s

/-- R190, R208: the Transport's turn: it delivers only to a read in flight, and at most maxLength bytes. -/
def transportTurn (b : List Byte) (s : State) : Host.Outcome State Fault Refusal :=
  if s.ENG = .readPending ∧ b.length ≤ 2 * s.SNAP_W.toNat then chunkArrival b s else .next s

/-- R203: the forced stop, SCAN = Scanning. -/
def State.forcedStop (s : State) : State :=
  { (s.emit [.stop]).dropBuffer.clearResidual with SCAN := .idle, ENG := .stopped }

/-- R202, R203, R204: the Consumer's answer to the presented record. -/
def consumerAnswer (c : Bool) (s : State) : Host.Outcome State Fault Refusal :=
  if c then .next { s.answered c with ENG := .walk }
  else if s.SCAN = .scanning then .next (s.answered c).forcedStop
  else .next { s.answered c with ENG := .fatal }

/-- R190: the Consumer's turn: it answers only a presented record. -/
def consumerTurn (c : Bool) (s : State) : Host.Outcome State Fault Refusal :=
  if s.ENG = .waitConsumer then consumerAnswer c s else .next s

end Sys2Proof.Machine
end

