-- ==== Sys2Proof/Machine/Turns.lean ====
section
/-! DEFINITION. What one turn of an agent does (R6, R70): the Host runs a command word, the Engine, the Transport and
the Consumer take their step of 43_decoder.md, reset is R290. -/

namespace Sys2Proof.Machine

/-- R83: a command word is decoded and run; an illegal one answers IllegalCommand and changes no state. -/
def runWord (w : CmdWord) (s : State) : Host.Outcome State Fault Refusal :=
  match decode w with
  | .ok i => exec i s
  | .error _ => .next (s.raise .illegalCommand)

/-- R6, R66, R162: the Host's turn: a held START goes on, and while it holds no other command is taken; else the next
command word is taken. -/
def hostTurn (s : State) : Host.Outcome State Fault Refusal :=
  if s.held then exec .start s
  else
    match s.cmds with
    | [] => .next s
    | w :: ws => runWord w { s with cmds := ws }

/-- R290: every register takes its reset value; the parameters and what the agents have still to do stay (entry 6 of the
assumption log). -/
def resetTurn (s : State) : Host.Outcome State Fault Refusal :=
  .next { State.reset with params := s.params, turns := s.turns, cmds := s.cmds }

/-- R6: one turn. -/
def agentTurn (t : Turn) (s : State) : Host.Outcome State Fault Refusal :=
  match t with
  | .host => hostTurn s
  | .engine => engineTurn s
  | .transport b => transportTurn b s
  | .consumer c => consumerTurn c s
  | .reset => resetTurn s

/-- The next turn of `turns` is taken; with no turn left no agent moves (entry 1 of the assumption log). -/
def nextTurn (s : State) : Host.Outcome State Fault Refusal :=
  match s.turns with
  | [] => .next s
  | t :: ts => agentTurn t { s with turns := ts }

/-- The state in which the Host's next turn comes first and takes the word `w`, with no START held. -/
def State.withCommand (s : State) (w : CmdWord) : State :=
  { s with turns := .host :: s.turns, cmds := w :: s.cmds, held := false }

end Sys2Proof.Machine
end

