-- ==== Sys2Proof/Safety.lean ====
section
/-! DEFINITION. What the claims are stated in terms of: the invariant of the state, the end of a run (R270), and the
sample stream of a run read without the Engine (R210). -/

namespace Sys2Proof.Machine

/-- The invariant: the legal values of the registers (10_state.md) and the relations between them that the spec states.
It holds at reset and every step keeps it. -/
structure State.Inv (s : State) : Prop where
  /-- R24: values 12–15 are never stored. -/
  rrange_legal : s.RRANGE.toNat ≤ 11
  /-- R28: 0 ("never set") or a value in [375, 655356]. -/
  srate_legal : s.SRATE = 0 ∨ (Config.SRATE_MIN ≤ s.SRATE.toNat ∧ s.SRATE.toNat ≤ Config.SRATE_MAX)
  /-- R29: legal values 1–65535. -/
  dec_legal : s.DEC ≠ 0
  /-- R34: a snapshot of RRANGE. -/
  snap_range_legal : s.SNAP_RANGE.toNat ≤ 11
  /-- R34: 8 << code. -/
  snap_w_legal : ∃ code : BitVec 3, s.SNAP_W.toNat = packetWords code
  /-- R140: an integer in [5000, 33554]. -/
  snap_tmo_legal : 5000 ≤ s.SNAP_TMO.toNat ∧ s.SNAP_TMO.toNat ≤ 33554
  /-- R33: at most 11 slots are in use. -/
  sl_len_le : s.SL_LEN.toNat ≤ Config.SL_MAX
  /-- R33: at least one slot is in use from the first START on. -/
  sl_len_pos : s.ENG ≠ .stopped → 1 ≤ s.SL_LEN.toNat
  /-- R160: the slots in use are in the order analog ascending, digitals, rate, count, each at most once. -/
  slots_ascending : s.slots.Pairwise fun a b => a.tag.toNat < b.tag.toNat
  /-- R160: unused slots are cleared. -/
  unused_clear : ∀ i : Fin 11, s.SL_LEN.toNat ≤ i.val → s.SL.get i = .analog 0
  /-- R36: CUR names a slot in use, or is 0 while there is none. -/
  cursor_in_list : s.CUR.toNat < s.SL_LEN.toNat ∨ (s.CUR = 0 ∧ s.SL_LEN = 0)
  /-- R38, R201: with the drop policy no residual byte is ever held. -/
  drop_holds_nothing : s.params.oddByte = .drop → s.RES_V = false
  /-- R39: BLEN is the length of the chunk buffer. -/
  blen_is_length : s.BLEN.toNat = s.BUF.length
  /-- R39: one residual byte plus a chunk of at most 2 · SNAP_W bytes. -/
  blen_bound : s.BUF.length ≤ 2 * s.SNAP_W.toNat + 1
  /-- R39: 0 ≤ POS ≤ BLEN. -/
  pos_le : s.POS.toNat ≤ s.BLEN.toNat
  /-- R191, R201, R203: outside a walk the buffer is empty. -/
  buffer_empty : s.ENG = .stopped ∨ s.ENG = .top ∨ s.ENG = .readPending → s.BUF = [] ∧ s.POS = 0
  /-- R191, R203, R204: while SCAN = Scanning the Engine runs. -/
  scanning_runs : s.SCAN = .scanning → s.ENG ≠ .stopped ∧ s.ENG ≠ .fatal
  /-- R88: record bits [255:247] are 0. -/
  out_top_zero : s.OUT.extractLsb' 247 9 = 0
  /-- R41: while the Engine waits, OUT is the record presented last. -/
  out_presented : s.ENG = .waitConsumer → s.recs.getLast? = some s.OUT
  /-- R75: every record but the one that waits has its answer. -/
  answers_match : s.recs.length = s.answers.length + (if s.ENG = .waitConsumer then 1 else 0)
  /-- R162: a START holds only past its checks. -/
  held_checked : s.held = true → s.SCAN = .idle ∧ s.NINPUTS ≠ 0

/-- R270: the end of a run: the Engine stopped or fatal, SCAN Idle, no host command pending. DESIGN CHOICE (entry 17 of
the assumption log): R270 does not say what is pending; the model counts a held START and also every word of `cmds`, the
words the Host has not yet issued. -/
def State.Ended (s : State) : Prop :=
  (s.ENG = .stopped ∨ s.ENG = .fatal) ∧ s.SCAN = .idle ∧ s.held = false ∧ s.cmds = []

/-- R270: "it has ended well when in addition ENG = STOPPED". -/
def State.EndedWell (s : State) : Prop := s.Ended ∧ s.ENG = .stopped

/-- The registers of channel configuration and of rate and framing (R21–R25, R28–R31) of two states agree. -/
def SameConfig (s t : State) : Prop :=
  t.AEN = s.AEN ∧ t.DEN = s.DEN ∧ t.REN = s.REN ∧ t.RRANGE = s.RRANGE ∧ t.CEN = s.CEN ∧ t.SRATE = s.SRATE
    ∧ t.DEC = s.DEC ∧ t.FILT = s.FILT ∧ t.PSC = s.PSC

/-- The scan list and the session snapshots (R33, R34) of two states agree. -/
def SameSession (s t : State) : Prop :=
  t.SL = s.SL ∧ t.SL_LEN = s.SL_LEN ∧ t.SNAP_RANGE = s.SNAP_RANGE ∧ t.SNAP_W = s.SNAP_W ∧ t.SNAP_TMO = s.SNAP_TMO

/-- R61: the words of a byte sequence, little-endian, paired from its first byte; a lone last byte forms none. -/
def wordsOf : List Byte → List StreamWord
  | b0 :: b1 :: rest => wordOf b0 b1 :: wordsOf rest
  | _ => []

/-- The bytes that the state's next step takes from the Transport (R194, R208): those of a chunk delivered to a read in
flight. -/
def State.bytesTaken (s : State) : List Byte :=
  match s.turns with
  | .transport b :: _ => if s.ENG = .readPending ∧ b.length ≤ 2 * s.SNAP_W.toNat then b else []
  | _ => []

/-- R210: the stream bytes that n steps from a state deliver, in delivery order. -/
def delivered : Nat → State → List Byte
  | 0, _ => []
  | n + 1, s =>
    s.bytesTaken ++
      match step s with
      | .next t => delivered n t
      | .fault _ => []
      | .refused _ => []

/-- The stream bytes delivered and not yet formed into a word: the rest of the buffer, and a residual byte. -/
def State.bytesLeft (s : State) : Nat := s.BUF.length - s.POS.toNat + bit s.RES_V

/-- R210: the word of record k that the scan list `sl` gives to the entry e, from the words of the whole stream: word
k · SL_LEN + i for the entry of slot i. -/
def wordFor (sl : List Entry) (ws : List StreamWord) (k : Nat) (e : Entry) : Option StreamWord :=
  match sl.idxOf? e with
  | some i => ws[k * sl.length + i]?
  | none => none

/-- R209, R210: record k of a session, read from the words of the whole stream. -/
def streamRecord (sl : List Entry) (range : BitVec 4) (ws : List StreamWord) (k : Nat) : SampleRecord where
  PKTNO := BitVec.ofNat 64 k
  A := #v[wordFor sl ws k (.analog 0), wordFor sl ws k (.analog 1), wordFor sl ws k (.analog 2),
    wordFor sl ws k (.analog 3), wordFor sl ws k (.analog 4), wordFor sl ws k (.analog 5),
    wordFor sl ws k (.analog 6), wordFor sl ws k (.analog 7)]
  DIG := (wordFor sl ws k .digitals).map highByte
  RT := wordFor sl ws k .rate
  CT := wordFor sl ws k .count
  RANGE := range

/-- R210: a session at its start: the Engine about to take its first loop top, nothing decoded yet. -/
def State.FreshSession (s : State) : Prop :=
  s.ENG = .top ∧ s.CUR = 0 ∧ s.PKT = 0 ∧ s.RES_V = false ∧ s.BUF = [] ∧ s.POS = 0

/-- R210: no reset, no forced stop and no new session in what the agents have still to do: no reset turn, no answer 0,
no START among the commands and none held. A host STOP may be among them. -/
def State.OneSession (s : State) : Prop :=
  Turn.reset ∉ s.turns ∧ Turn.consumer false ∉ s.turns ∧ s.held = false
    ∧ ∀ w ∈ s.cmds, decode w ≠ .ok .start

end Sys2Proof.Machine
end

