-- ==== Sys2Proof/Certificates/Slice0/Obligations.lean ====
section
/-! DEFINITION. The statements about DQ2108-PD. Each names the rule of spec/ it formalises. A response is written with
`rspWord` (R81); `{ s with … }` says what a command writes and, by naming nothing else, its whole frame. Every statement
holds for both values of each named parameter (R8) and for every list of turns and commands still to come. -/

open Sys2Proof Sys2Proof.Machine

namespace Sys2Proof

/-! ## Vocabulary of the statements -/

/-- s after a command that answered `st` with data `d` and wrote nothing else. -/
def Answered (s : State) (st : Status) (d : Field56) : State :=
  { s with rsps := s.rsps ++ [rspWord st d] }

/-- R26, read from the enables: how many logical inputs are enabled. -/
def inputCount (s : State) : Nat :=
  (List.finRange 8).countP (fun c => s.AEN.getLsbD c.val) + (if s.DEN = 0 then 0 else 1)
    + (if s.REN then 1 else 0) + (if s.CEN then 1 else 0)

/-- q is a / b rounded to the nearest integer, ties away from zero (R12): q ≤ a/b + 1/2 < q + 1. -/
def NearestHalfUp (a b q : Nat) : Prop := 2 * q * b ≤ 2 * a + b ∧ 2 * a + b < 2 * (q + 1) * b

/-- R68: the address map of the host register space as numbers, the registers from 0x00 to 0x16. -/
def hostMapLow (s : State) : List (Nat × Nat) :=
  [(0x00, s.AEN.toNat), (0x01, s.DEN.toNat), (0x02, if s.REN then 1 else 0), (0x03, s.RRANGE.toNat),
   (0x04, if s.CEN then 1 else 0), (0x05, inputCount s), (0x06, 127 - s.DEN.toNat), (0x07, s.SRATE.toNat),
   (0x08, s.DEC.toNat), (0x09, s.FILT.code.toNat), (0x0A, s.PSC.toNat),
   (0x0B, if s.SCAN = .scanning then 1 else 0), (0x0C, s.SL_LEN.toNat), (0x0D, s.SNAP_RANGE.toNat),
   (0x0E, s.SNAP_W.toNat), (0x0F, s.SNAP_TMO.toNat), (0x10, s.ENG.code), (0x11, s.CUR.toNat),
   (0x12, (if s.RES_V then 256 else 0) + s.RES_B.toNat), (0x13, s.PKT.toNat % 2 ^ 32),
   (0x14, s.PKT.toNat / 2 ^ 32), (0x15, s.POS.toNat), (0x16, s.BLEN.toNat)]

/-- R68: the address map of the host register space as numbers, the accumulator at 0x20 to 0x2A. -/
def hostMapAcc (s : State) : List (Nat × Nat) :=
  (List.finRange 8).map (fun c => (0x20 + c.val, (s.ACC.A.get c).toNat))
    ++ [(0x28, s.ACC.D.toNat), (0x29, s.ACC.RT.toNat), (0x2A, s.ACC.CT.toNat)]

/-- R67: the commands that change no state. -/
def IsQuery : Instr → Prop
  | .rdreg _ => True
  | .rdsl _ => True
  | .cnt => True
  | .pktw _ => True
  | .rpp _ _ => True
  | .tmo => True
  | .cvtv _ => True
  | .cvtf _ _ => True
  | _ => False

/-- The next step of s is a turn of an agent and no reset. -/
def NoResetNext (s : State) : Prop := s.turns.head? ≠ some .reset

/-- R6, R83: the next step of s is a Host's turn that takes a command word for i. -/
def TakesCommand (s : State) (i : Instr) : Prop :=
  s.turns.head? = some .host ∧ s.held = false ∧ ∃ w ws, s.cmds = w :: ws ∧ decode w = .ok i

/-- R162: the next step of s is a Host's turn on a START: one that is held, or a START word that is taken. -/
def TakesStart (s : State) : Prop :=
  (s.turns.head? = some .host ∧ s.held = true) ∨ TakesCommand s .start

/-- R87: the SLIST record of slot i of the scan list of s. -/
def slistRecord (s : State) (i : Nat) : DevCmd :=
  .slist (BitVec.ofNat 4 i) (s.sourceCode (s.slots.getD i (.analog 0)))

/-- R162: START's conditions for beginning a session in this step: it is held or passes its checks, and the Engine is
stopped. -/
def StartReady (s : State) : Prop :=
  s.ENG = .stopped ∧ (s.held = true ∨ (s.SCAN = .idle ∧ inputCount s ≠ 0))

end Sys2Proof

/-! ## Encoding -/

/-- R80, R82, R84, R93: no bit of a command is dropped: its word decodes to it, at every value of every operand. -/
def Obligations.DecodeOfEncodeIsTheCommand : Prop :=
  ∀ i : Instr, decode (encode i) = .ok i

/-- R80, R82, R84: a word has one meaning: a word that decodes is the encoding of what it decodes to. -/
def Obligations.EncodeOfDecodeIsTheWord : Prop :=
  ∀ (w : CmdWord) (i : Instr), decode w = .ok i → encode i = w

/-- R83, R84: the decoder accepts exactly the words of the rows of spec/opcode_table.json, and no word belongs to two
rows. -/
def Obligations.DecoderAcceptsExactlyTheTable : Prop :=
  ∀ w : CmdWord,
    ((∃ i, decode w = .ok i) ↔ ∃ r ∈ opcodeTable, w &&& r.mask = r.pattern) ∧
    ∀ r ∈ opcodeTable, ∀ q ∈ opcodeTable, w &&& r.mask = r.pattern → w &&& q.mask = q.pattern → r = q

/-- R83: "A command word whose opcode is not in rule R84, or whose reserved operand bits are not all 0, is illegal: the
block responds with status IllegalCommand, data 0, and changes no state". -/
def Obligations.IllegalWordAnswersIllegalCommand : Prop :=
  ∀ (w : CmdWord) (s : State), (∀ r ∈ opcodeTable, w &&& r.mask ≠ r.pattern) →
    runWord w s = .next { s with rsps := s.rsps ++ [0x0800000000000000] }

/-- R93 and the encoding vectors of 95_test_vectors.md: words written out from the encoding. -/
def Obligations.WrittenOutWordsDecode : Prop :=
  decode 0x0100000000000003 = .ok (.ena 3) ∧
  decode 0x0300000000000006 = .ok (.end_ 6) ∧
  decode 0x050000000000000B = .ok (.enr 11) ∧
  decode 0x1000000003E80000 = .ok (.srate 0x3E80000) ∧
  decode 0x1200000000000003 = .ok (.setfilt .minimum) ∧
  decode 0x15000000000B0400 = .ok (.rpp 1024 11) ∧
  decode 0x2000000000000000 = .ok .start ∧
  decode 0x230000000000002A = .ok (.rdreg 0x2A) ∧
  decode 0x310000000005FFFF = .ok (.cvtf 0xFFFF 5)

/-- R81, R260: the fields of a response word and the code of every status. -/
def Obligations.ResponseWordFields : Prop :=
  (∀ (st : Status) (d : Field56),
    (rspWord st d).extractLsb' 56 8 = st.code ∧ (rspWord st d).extractLsb' 0 56 = d) ∧
  [Status.ok, .invalidAnalogIndex, .invalidDigitalIndex, .noInputsConfigured, .dataRateAboveMaximum,
    .dataRateBelowMinimum, .cannotConfigureWhileScanning, .notScanning, .illegalCommand, .reservedValue,
    .engineFatal].map Status.code = [0, 1, 2, 3, 4, 5, 6, 7, 8, 9, 10]

/-! ## The step -/

/-- R66, R70, R83: when the next turn is the Host's, no START is held and there is a next word: if it decodes to i, the
step is `exec i` after the turn and the word are taken; if it does not decode, the step takes them and answers
IllegalCommand. -/
def Obligations.HostTurnRunsTheDecodedCommand : Prop :=
  ∀ (s : State) (ts : List Turn) (w : CmdWord) (ws : List CmdWord),
    s.turns = .host :: ts → s.held = false → s.cmds = w :: ws →
    (∀ i, decode w = .ok i → step s = exec i { s with turns := ts, cmds := ws }) ∧
    (∀ r, decode w = .error r →
      step s = .next { s with turns := ts, cmds := ws, rsps := s.rsps ++ [rspWord .illegalCommand 0] })

/-- The word that `withFetchWord` places is the one the very next step runs, on any state with no START held
(how a program comes to run: entry 4 of the assumption log). -/
def Obligations.PlacedWordRunsNext : Prop :=
  ∀ (s : State) (w : CmdWord) (i : Instr), s.held = false → decode w = .ok i →
    step (s.withFetchWord 64 w.toNat) = exec i s

/-- R162, R295: "A START taken while the Engine drains … holds until ENG = STOPPED, and no other host command is taken
meanwhile": a START that passes its checks with the Engine running is held, a Host turn then takes no command and
changes nothing, and once ENG = STOPPED the Host's turn completes it. That a held START stays held when the drain ends
in FATAL is the model's reading (entry 5 of the assumption log). -/
def Obligations.StartHoldsThroughADrain : Prop :=
  ∀ (s : State) (ts : List Turn),
    (s.held = false → s.SCAN = .idle → inputCount s ≠ 0 → s.ENG ≠ .stopped → s.ENG ≠ .fatal →
      exec .start s = .next { s with held := true }) ∧
    (s.held = true → s.ENG ≠ .stopped → s.turns = .host :: ts → step s = .next { s with turns := ts }) ∧
    (s.held = true → s.ENG = .stopped → s.turns = .host :: ts →
      ∃ t, step s = .next t ∧ t.held = false ∧ t.SCAN = .scanning ∧ t.ENG = .top ∧ t.cmds = s.cmds ∧
        t.rsps = s.rsps ++ [rspWord .ok 0])

/-- R290: "On reset every register of 10_state.md takes the reset value its rule gives, in one step, whatever the agents
were doing". What happens to the model's own input and output fields is entry 6 of the assumption log. -/
def Obligations.ResetTurnResetsEveryRegister : Prop :=
  ∀ (s : State) (ts : List Turn), s.turns = .reset :: ts →
    step s = .next { State.reset with params := s.params, turns := ts, cmds := s.cmds }

/-- R291: the state after reset. -/
def Obligations.ResetValues : Prop :=
  let s := State.reset
  s.AEN = 0 ∧ s.DEN = 0 ∧ s.ENDO = 0x7F ∧ s.REN = false ∧ s.RRANGE = 0 ∧ s.CEN = false ∧ inputCount s = 0 ∧
  s.SRATE = 0 ∧ s.DEC = 1 ∧ s.FILT = .lastPoint ∧ s.PSC = 0 ∧ s.SCAN = .idle ∧
  s.SL_LEN = 0 ∧ (∀ i : Fin 11, (s.SL.get i).tag = 0) ∧ s.SNAP_RANGE = 0 ∧ s.SNAP_W = 8 ∧ s.SNAP_TMO = 5000 ∧
  s.ENG = .stopped ∧ s.CUR = 0 ∧ (∀ c : Fin 8, s.ACC.A.get c = 0) ∧ s.ACC.D = 0 ∧ s.ACC.RT = 0 ∧ s.ACC.CT = 0 ∧
  s.RES_V = false ∧ s.RES_B = 0 ∧ s.BUF = [] ∧ s.BLEN = 0 ∧ s.POS = 0 ∧ s.PKT = 0 ∧ s.OUT = 0 ∧ s.DEVQ = []

/-! ## Channel configuration -/

/-- R111: ENA. -/
def Obligations.EnaSetsOneAnalogBit : Prop :=
  ∀ (idx : BitVec 8) (s : State),
    encode (.ena idx) = 0x0100000000000000 + idx.setWidth 64 ∧
    (s.SCAN = .scanning → exec (.ena idx) s = .next (Answered s .cannotConfigureWhileScanning 0)) ∧
    (s.SCAN = .idle → 8 ≤ idx.toNat → exec (.ena idx) s = .next (Answered s .invalidAnalogIndex 0)) ∧
    (s.SCAN = .idle → idx.toNat ≤ 7 →
      ∃ aen : BitVec 8, (∀ c : Fin 8, aen.getLsbD c = (decide (c.val = idx.toNat) || s.AEN.getLsbD c)) ∧
        exec (.ena idx) s = .next { s with AEN := aen, rsps := s.rsps ++ [rspWord .ok 0] })

/-- R112: DISA. -/
def Obligations.DisaClearsOneAnalogBit : Prop :=
  ∀ (idx : BitVec 8) (s : State),
    encode (.disa idx) = 0x0200000000000000 + idx.setWidth 64 ∧
    (s.SCAN = .scanning → exec (.disa idx) s = .next (Answered s .cannotConfigureWhileScanning 0)) ∧
    (s.SCAN = .idle → 8 ≤ idx.toNat → exec (.disa idx) s = .next (Answered s .invalidAnalogIndex 0)) ∧
    (s.SCAN = .idle → idx.toNat ≤ 7 →
      ∃ aen : BitVec 8, (∀ c : Fin 8, aen.getLsbD c = (!decide (c.val = idx.toNat) && s.AEN.getLsbD c)) ∧
        exec (.disa idx) s = .next { s with AEN := aen, rsps := s.rsps ++ [rspWord .ok 0] })

/-- R113: END; the line's ENDO bit becomes 0. -/
def Obligations.EndMakesOneLineAnInput : Prop :=
  ∀ (idx : BitVec 8) (s : State),
    encode (.end_ idx) = 0x0300000000000000 + idx.setWidth 64 ∧
    (s.SCAN = .scanning → exec (.end_ idx) s = .next (Answered s .cannotConfigureWhileScanning 0)) ∧
    (s.SCAN = .idle → 7 ≤ idx.toNat → exec (.end_ idx) s = .next (Answered s .invalidDigitalIndex 0)) ∧
    (s.SCAN = .idle → idx.toNat ≤ 6 →
      ∃ den : BitVec 7, (∀ c : Fin 7, den.getLsbD c = (decide (c.val = idx.toNat) || s.DEN.getLsbD c)) ∧
        exec (.end_ idx) s = .next { s with DEN := den, rsps := s.rsps ++ [rspWord .ok 0] } ∧
        ({ s with DEN := den }).ENDO.getLsbD idx.toNat = false)

/-- R114: DISD; the line's ENDO bit becomes 1. -/
def Obligations.DisdMakesOneLineAnOutput : Prop :=
  ∀ (idx : BitVec 8) (s : State),
    encode (.disd idx) = 0x0400000000000000 + idx.setWidth 64 ∧
    (s.SCAN = .scanning → exec (.disd idx) s = .next (Answered s .cannotConfigureWhileScanning 0)) ∧
    (s.SCAN = .idle → 7 ≤ idx.toNat → exec (.disd idx) s = .next (Answered s .invalidDigitalIndex 0)) ∧
    (s.SCAN = .idle → idx.toNat ≤ 6 →
      ∃ den : BitVec 7, (∀ c : Fin 7, den.getLsbD c = (!decide (c.val = idx.toNat) && s.DEN.getLsbD c)) ∧
        exec (.disd idx) s = .next { s with DEN := den, rsps := s.rsps ++ [rspWord .ok 0] } ∧
        ({ s with DEN := den }).ENDO.getLsbD idx.toNat = true)

/-- R115: ENR. -/
def Obligations.EnrEnablesRateWithItsRange : Prop :=
  ∀ (rng : BitVec 4) (s : State),
    encode (.enr rng) = 0x0500000000000000 + rng.setWidth 64 ∧
    (s.SCAN = .scanning → exec (.enr rng) s = .next (Answered s .cannotConfigureWhileScanning 0)) ∧
    (s.SCAN = .idle → 12 ≤ rng.toNat → exec (.enr rng) s = .next (Answered s .reservedValue 0)) ∧
    (s.SCAN = .idle → rng.toNat ≤ 11 →
      exec (.enr rng) s = .next { s with REN := true, RRANGE := rng, rsps := s.rsps ++ [rspWord .ok 0] })

/-- R116, R117, R118: DISR (RRANGE unchanged), ENC and DISC. -/
def Obligations.DisrEncDiscWriteOneFlag : Prop :=
  ∀ s : State,
    (encode .disr = 0x0600000000000000 ∧ encode .enc = 0x0700000000000000 ∧ encode .disc = 0x0800000000000000) ∧
    (s.SCAN = .scanning → ∀ i : Instr, (i = .disr ∨ i = .enc ∨ i = .disc) →
      exec i s = .next (Answered s .cannotConfigureWhileScanning 0)) ∧
    (s.SCAN = .idle →
      exec .disr s = .next { s with REN := false, rsps := s.rsps ++ [rspWord .ok 0] } ∧
      exec .enc s = .next { s with CEN := true, rsps := s.rsps ++ [rspWord .ok 0] } ∧
      exec .disc s = .next { s with CEN := false, rsps := s.rsps ++ [rspWord .ok 0] })

/-- R26, R119: CNT answers the number of enabled inputs, at most 11, in every state. -/
def Obligations.CntCountsEnabledInputs : Prop :=
  ∀ s : State,
    encode .cnt = 0x0900000000000000 ∧
    exec .cnt s = .next (Answered s .ok (BitVec.ofNat 56 (inputCount s))) ∧ inputCount s ≤ 11

/-! ## Rate and packet arithmetic -/

/-- R130, R131, R132: SRATE, with r = 60000000 · 65536 / hz rounded to nearest, ties away from zero. -/
def Obligations.SrateStoresTheRoundedRegister : Prop :=
  ∀ (hz : BitVec 48) (s : State),
    encode (.srate hz) = 0x1000000000000000 + hz.setWidth 64 ∧
    (s.SCAN = .scanning → exec (.srate hz) s = .next (Answered s .cannotConfigureWhileScanning 0)) ∧
    (s.SCAN = .idle → inputCount s = 0 → exec (.srate hz) s = .next (Answered s .noInputsConfigured 0)) ∧
    (s.SCAN = .idle → inputCount s ≠ 0 → hz = 0 →
      exec (.srate hz) s = .next (Answered s .dataRateAboveMaximum 0)) ∧
    (s.SCAN = .idle → inputCount s ≠ 0 → hz ≠ 0 → ∀ r, NearestHalfUp (60000000 * 65536) hz.toNat r →
      (655356 < r → exec (.srate hz) s = .next (Answered s .dataRateAboveMaximum 0)) ∧
      (r < 375 → exec (.srate hz) s = .next (Answered s .dataRateBelowMinimum 0)) ∧
      (375 ≤ r → r ≤ 655356 →
        exec (.srate hz) s = .next
          { s with SRATE := BitVec.ofNat 20 r, rsps := s.rsps ++ [rspWord .ok (BitVec.ofNat 56 r)] }))

/-- R130: "The result is non-increasing in H: a larger hertz never gives a larger register"; H = 0 alone has no finite
register. -/
def Obligations.ScanRateIsNonIncreasing : Prop :=
  scanRateReg 0 = none ∧
  ∀ H K : Nat, 0 < H → H ≤ K → ∃ a b, scanRateReg H = some a ∧ scanRateReg K = some b ∧ b ≤ a

/-- R134: SETDEC. -/
def Obligations.SetdecStoresAPositiveFactor : Prop :=
  ∀ (val : BitVec 16) (s : State),
    encode (.setdec val) = 0x1100000000000000 + val.setWidth 64 ∧
    (s.SCAN = .scanning → exec (.setdec val) s = .next (Answered s .cannotConfigureWhileScanning 0)) ∧
    (s.SCAN = .idle → val = 0 → exec (.setdec val) s = .next (Answered s .reservedValue 0)) ∧
    (s.SCAN = .idle → val ≠ 0 →
      exec (.setdec val) s = .next { s with DEC := val, rsps := s.rsps ++ [rspWord .ok 0] })

/-- R135, R136: SETFILT and SETPS; every operand value is legal. -/
def Obligations.SetfiltAndSetpsStoreTheirCode : Prop :=
  ∀ (flt : FilterMode) (code : BitVec 3) (s : State),
    encode (.setfilt flt) = 0x1200000000000000 + flt.code.setWidth 64 ∧
    encode (.setps code) = 0x1300000000000000 + code.setWidth 64 ∧
    [FilterMode.lastPoint, .cicFilter, .maximum, .minimum].map FilterMode.code = [0, 1, 2, 3] ∧
    (s.SCAN = .scanning →
      exec (.setfilt flt) s = .next (Answered s .cannotConfigureWhileScanning 0) ∧
      exec (.setps code) s = .next (Answered s .cannotConfigureWhileScanning 0)) ∧
    (s.SCAN = .idle →
      exec (.setfilt flt) s = .next { s with FILT := flt, rsps := s.rsps ++ [rspWord .ok 0] } ∧
      exec (.setps code) s = .next { s with PSC := code, rsps := s.rsps ++ [rspWord .ok 0] })

/-- R137, R138: PKTW answers 8 × 2^code words, in every state. -/
def Obligations.PktwAnswersPacketWords : Prop :=
  ∀ (code : BitVec 3) (s : State),
    encode (.pktw code) = 0x1400000000000000 + code.setWidth 64 ∧
    exec (.pktw code) s = .next (Answered s .ok (BitVec.ofNat 56 (8 * 2 ^ code.toNat)))

/-- R139: RPP answers numerator and denominator unreduced, 0/1 for n = 0, in every state. -/
def Obligations.RppAnswersTheRatio : Prop :=
  ∀ (wc : BitVec 16) (n : BitVec 8) (s : State),
    encode (.rpp wc n) = 0x1500000000000000 + (n.setWidth 64 <<< 16) + wc.setWidth 64 ∧
    ∃ d : Field56, exec (.rpp wc n) s = .next (Answered s .ok d) ∧
      d.extractLsb' 24 32 = 0 ∧
      (n = 0 → d.extractLsb' 0 16 = 0 ∧ d.extractLsb' 16 8 = 1) ∧
      (n ≠ 0 → d.extractLsb' 0 16 = wc ∧ d.extractLsb' 16 8 = n)

/-- R140, R141: TMO answers max(5000, round_ha(W · S, 20000 · N)), 5000 while SRATE was never set, and
NoInputsConfigured with no input enabled, in every SCAN and ENG state. -/
def Obligations.TmoAnswersTheDecodeTimeout : Prop :=
  ∀ s : State,
    encode .tmo = 0x1600000000000000 ∧
    (inputCount s = 0 → exec .tmo s = .next (Answered s .noInputsConfigured 0)) ∧
    (inputCount s ≠ 0 → s.SRATE = 0 → exec .tmo s = .next (Answered s .ok 5000)) ∧
    (inputCount s ≠ 0 → s.SRATE ≠ 0 →
      ∀ q, NearestHalfUp (8 * 2 ^ s.PSC.toNat * s.SRATE.toNat) (20000 * inputCount s) q →
        exec .tmo s = .next (Answered s .ok (BitVec.ofNat 56 (max 5000 q))))

/-- R140: "The result is an integer in [5000, 33554] for every legal S, W ≤ 1024 and N ≥ 1". -/
def Obligations.TimeoutStaysInItsBounds : Prop :=
  ∀ S W N : Nat, (S = 0 ∨ (375 ≤ S ∧ S ≤ 655356)) → W ≤ 1024 → 1 ≤ N →
    5000 ≤ decodeTimeoutMs S W N ∧ decodeTimeoutMs S W N ≤ 33554

/-! ## Scan list and scan control -/

/-- R162: START's error answers, in their order, each changing nothing. -/
def Obligations.StartErrorsInOrder : Prop :=
  ∀ s : State, s.held = false →
    encode .start = 0x2000000000000000 ∧
    (s.SCAN = .scanning → exec .start s = .next (Answered s .cannotConfigureWhileScanning 0)) ∧
    (s.SCAN = .idle → inputCount s = 0 → exec .start s = .next (Answered s .noInputsConfigured 0)) ∧
    (s.SCAN = .idle → inputCount s ≠ 0 → s.ENG = .fatal → exec .start s = .next (Answered s .engineFatal 0))

/-- R162: a START that is ready begins a session: the snapshots, the cleared decoder state, the emitted configuration
sequence, SCAN = Scanning, ENG = TOP, and nothing else but the scan list, which `StartBuildsTheScanList` gives. -/
def Obligations.StartBeginsASession : Prop :=
  ∀ s : State, StartReady s →
    ∃ (t : State) (seq : List DevCmd), exec .start s = .next t ∧
      t = { s with
        SL := t.SL, SL_LEN := t.SL_LEN
        SNAP_RANGE := s.RRANGE
        SNAP_W := BitVec.ofNat 11 (8 * 2 ^ s.PSC.toNat)
        SNAP_TMO := BitVec.ofNat 32 (decodeTimeoutMs s.SRATE.toNat (8 * 2 ^ s.PSC.toNat) (inputCount s))
        CUR := 0
        ACC := { A := Vector.replicate 8 0, D := 0, RT := 0, CT := 0 }
        RES_V := false, RES_B := 0, BUF := [], BLEN := 0, POS := 0, PKT := 0
        DEVQ := s.DEVQ ++ seq
        SCAN := .scanning
        ENG := .top
        held := false
        rsps := s.rsps ++ [rspWord .ok 0] }

/-- R160, R161: the scan list a START builds: its length is NINPUTS, its tags ascend (analog channels, digitals, rate,
count), each enabled input is in it and no other, and the unused slots are cleared. -/
def Obligations.StartBuildsTheScanList : Prop :=
  ∀ s t : State, StartReady s → exec .start s = .next t →
    t.SL_LEN.toNat = inputCount s ∧ t.slots.length = inputCount s ∧
    t.slots.Pairwise (fun a b => a.tag.toNat < b.tag.toNat) ∧
    (∀ c : Fin 8, .analog c ∈ t.slots ↔ s.AEN.getLsbD c.val = true) ∧
    (.digitals ∈ t.slots ↔ s.ENDO ≠ 127) ∧ (s.ENDO ≠ 127 ↔ s.DEN ≠ 0) ∧
    (.rate ∈ t.slots ↔ s.REN = true) ∧ (.count ∈ t.slots ↔ s.CEN = true) ∧
    ∀ i : Fin 11, t.SL_LEN.toNat ≤ i.val → (t.SL.get i).tag = 0

/-- R87, R163: the device commands a START emits, in order, with their source codes. The codes c of Analog(c) and 8 of
Digitals are no rule of the spec's source: R87 marks them as general knowledge (entry 13 of the assumption log). -/
def Obligations.StartEmitsTheConfigSequence : Prop :=
  ∀ s t : State, StartReady s → exec .start s = .next t →
    (t.DEVQ = s.DEVQ
      ++ (List.range ((List.finRange 8).countP fun c => s.AEN.getLsbD c.val)).map (slistRecord t)
      ++ [.endo (~~~s.DEN)]
      ++ (List.range' ((List.finRange 8).countP fun c => s.AEN.getLsbD c.val)
          (t.SL_LEN.toNat - (List.finRange 8).countP fun c => s.AEN.getLsbD c.val)).map (slistRecord t)
      ++ [.srate s.SRATE]
      ++ (if s.AEN = 0 then [] else [.filter s.FILT.code, .dec s.DEC])
      ++ [.ps s.PSC, .start0]) ∧
    (∀ c : Fin 8, (t.sourceCode (.analog c)).toNat = c.val) ∧ t.sourceCode .digitals = 8 ∧
    (t.sourceCode .rate).toNat = 9 + (s.RRANGE.toNat + s.params.rateRangeCodeBase.val) * 256 ∧
    t.sourceCode .count = 10

/-- R164, R167: STOP; ENG is not written; a second STOP answers NotScanning, changes no state and emits nothing. -/
def Obligations.StopGoesIdleAndSendsStop : Prop :=
  (∀ s t : State, exec .stop s = .next t → exec .stop t = .next (Answered t .notScanning 0)) ∧
  ∀ s : State,
    encode .stop = 0x2100000000000000 ∧
    (s.SCAN = .idle → exec .stop s = .next (Answered s .notScanning 0)) ∧
    (s.SCAN = .scanning → exec .stop s = .next
      { s with DEVQ := s.DEVQ ++ [.stop], SCAN := .idle, rsps := s.rsps ++ [rspWord .ok 0] })

/-- R86, R165: RDSL answers tag and source code of a slot in use, and refuses the others. The tags are those of R86:
the channel, 8, 9 and 10. The source codes are stated by `StartEmitsTheConfigSequence`. -/
def Obligations.RdslReadsASlot : Prop :=
  (∀ (idx : BitVec 8) (s : State), s.SL_LEN.toNat ≤ 11 →
    encode (.rdsl idx) = 0x2200000000000000 + idx.setWidth 64 ∧
    (s.SL_LEN.toNat ≤ idx.toNat → exec (.rdsl idx) s = .next (Answered s .reservedValue 0)) ∧
    ∀ i : Fin 11, i.val = idx.toNat → i.val < s.SL_LEN.toNat →
      ∃ d : Field56, exec (.rdsl idx) s = .next (Answered s .ok d) ∧
        d.extractLsb' 0 4 = (s.SL.get i).tag ∧ d.extractLsb' 4 12 = 0 ∧
        d.extractLsb' 16 16 = s.sourceCode (s.SL.get i) ∧ d.extractLsb' 32 24 = 0) ∧
  (∀ c : Fin 8, (Entry.analog c).tag.toNat = c.val) ∧ Entry.digitals.tag = 8 ∧ Entry.rate.tag = 9 ∧
  Entry.count.tag = 10

/-- R68, R166: RDREG answers the value of every mapped address, and refuses every other; the value of ENG at 0x10 is
its code of R35. -/
def Obligations.RdregReadsTheMap : Prop :=
  [Eng.stopped, .top, .readPending, .walk, .waitConsumer, .fatal].map Eng.code = [0, 1, 2, 3, 4, 5] ∧
  ∀ (idx : BitVec 8) (s : State),
    encode (.rdreg idx) = 0x2300000000000000 + idx.setWidth 64 ∧
    (∀ p ∈ hostMapLow s ++ hostMapAcc s, idx.toNat = p.1 →
      exec (.rdreg idx) s = .next (Answered s .ok (BitVec.ofNat 56 p.2)) ∧ p.2 < 2 ^ 56) ∧
    ((∀ p ∈ hostMapLow s ++ hostMapAcc s, idx.toNat ≠ p.1) →
      exec (.rdreg idx) s = .next (Answered s .reservedValue 0))

/-! ## Value conversion -/

/-- R241, R242: CVTV answers 10 × cnt as 56-bit two's complement, exactly, in every state. -/
def Obligations.CvtvAnswersTheVoltage : Prop :=
  ∀ (cnt : BitVec 16) (s : State),
    encode (.cvtv cnt) = 0x3000000000000000 + cnt.setWidth 64 ∧
    ∃ d : Field56, exec (.cvtv cnt) s = .next (Answered s .ok d) ∧
      d.toInt = 10 * cnt.toInt ∧ -327680 ≤ d.toInt ∧ d.toInt ≤ 327670

/-- R240, R243, R244: CVTF answers (cnt + 32768) × rangeHz(rng), exactly and in 32 bits, and refuses range codes 12–15;
accepted in every state. -/
def Obligations.CvtfAnswersTheFrequency : Prop :=
  ∀ (cnt : BitVec 16) (rng : BitVec 4) (s : State),
    encode (.cvtf cnt rng) = 0x3100000000000000 + (rng.setWidth 64 <<< 16) + cnt.setWidth 64 ∧
    (12 ≤ rng.toNat → exec (.cvtf cnt rng) s = .next (Answered s .reservedValue 0)) ∧
    ∀ p ∈ ([(0, 50000), (1, 20000), (2, 10000), (3, 5000), (4, 2000), (5, 1000), (6, 500), (7, 200), (8, 100),
        (9, 50), (10, 20), (11, 10)] : List (Nat × Nat)), rng.toNat = p.1 →
      ∃ d : Field56, exec (.cvtf cnt rng) s = .next (Answered s .ok d) ∧
        (d.toNat : Int) = (cnt.toInt + 32768) * (p.2 : Int) ∧ d.toNat ≤ 3276750000

/-- R245, R246: the record-level conversions read the value and range bits of a record word where the presence bit is 1,
and are Absent where it is 0 (for a range code of R240). -/
def Obligations.RecordConversions : Prop :=
  ∀ (w : RecWord) (c : Fin 8),
    (w.getLsbD (236 + c.val) = false → recVoltage w c = none) ∧
    (w.getLsbD (236 + c.val) = true →
      recVoltage w c = some (10 * (w.extractLsb' (64 + 16 * c.val) 16).toInt)) ∧
    (w.getLsbD 245 = false → recFrequency w = none) ∧
    ∀ hz, rangeHz (w.extractLsb' 232 4) = some hz → w.getLsbD 245 = true →
      ∃ f, recFrequency w = some f ∧ (f : Int) = ((w.extractLsb' 200 16).toInt + 32768) * hz

/-! ## The record bus -/

/-- R88: the fields of a record are read back from its 256-bit word, and bits [255:247] are 0. -/
def Obligations.PackedRecordReadsBack : Prop :=
  ∀ r : SampleRecord, unpackRecord r.pack = r ∧ r.pack.extractLsb' 247 9 = 0

/-- R14, R88, R209: the record a pass closes with: the presence bits say which inputs the scan list holds, a present
field has the accumulator's value, an absent one has value bits 0, and the range and number are the session's. -/
def Obligations.RecordBusLayout : Prop :=
  ∀ s : State, let w := s.record.pack
    w.extractLsb' 0 64 = s.PKT ∧ w.extractLsb' 232 4 = s.SNAP_RANGE ∧ w.extractLsb' 247 9 = 0 ∧
    (∀ c : Fin 8, w.getLsbD (236 + c.val) = decide (.analog c ∈ s.slots) ∧
      w.extractLsb' (64 + 16 * c.val) 16 = if .analog c ∈ s.slots then s.ACC.A.get c else 0) ∧
    w.getLsbD 244 = decide (.digitals ∈ s.slots) ∧
    w.extractLsb' 192 8 = (if .digitals ∈ s.slots then s.ACC.D else 0) ∧
    w.getLsbD 245 = decide (.rate ∈ s.slots) ∧
    w.extractLsb' 200 16 = (if .rate ∈ s.slots then s.ACC.RT else 0) ∧
    w.getLsbD 246 = decide (.count ∈ s.slots) ∧
    w.extractLsb' 216 16 = (if .count ∈ s.slots then s.ACC.CT else 0)

/-! ## The Engine -/

/-- R191: loop top. -/
def Obligations.LoopTopTestsScan : Prop :=
  ∀ (s : State) (ts : List Turn), s.turns = .engine :: ts → s.ENG = .top →
    (s.SCAN = .idle → step s = .next { s with turns := ts, ENG := .stopped }) ∧
    (s.SCAN = .scanning → step s = .next
      { s with
        turns := ts
        reads := s.reads ++ [{ maxLength := 2 * s.SNAP_W.toNat, timeoutMs := s.SNAP_TMO }]
        ENG := .readPending })

/-- R193, R194: chunk arrival, empty and non-empty, with and without a carried residual byte. -/
def Obligations.ChunkArrivalReassemblesBytes : Prop :=
  ∀ (s : State) (ts : List Turn) (b : List Byte),
    s.turns = .transport b :: ts → s.ENG = .readPending → b.length ≤ 2 * s.SNAP_W.toNat →
    (b = [] → step s = .next { s with turns := ts, ENG := .top }) ∧
    (b ≠ [] → s.params.oddByte = .carry → s.RES_V = true → step s = .next
      { s with
        turns := ts, BUF := s.RES_B :: b, BLEN := BitVec.ofNat 12 (b.length + 1), POS := 0
        RES_V := false, RES_B := 0, ENG := .walk }) ∧
    (b ≠ [] → (s.params.oddByte = .drop ∨ s.RES_V = false) → step s = .next
      { s with turns := ts, BUF := b, BLEN := BitVec.ofNat 12 b.length, POS := 0, ENG := .walk })

/-- R190, R205, R207, R208, R269: a turn given to an agent that has no move changes nothing: the Transport with no read
in flight or with too many bytes, the Consumer with no record presented, the Engine in READ_PENDING, WAIT_CONSUMER,
STOPPED and FATAL. That such a turn passes is the model's convention (entry 2 of the assumption log). -/
def Obligations.TurnWithNoMovePasses : Prop :=
  ∀ (s : State) (t : Turn) (ts : List Turn), s.turns = t :: ts →
    ((∃ b, t = .transport b ∧ (s.ENG ≠ .readPending ∨ 2 * s.SNAP_W.toNat < b.length)) ∨
      (∃ c, t = .consumer c ∧ s.ENG ≠ .waitConsumer) ∨
      (t = .engine ∧ (s.ENG = .readPending ∨ s.ENG = .waitConsumer ∨ s.ENG = .stopped ∨ s.ENG = .fatal))) →
    step s = .next { s with turns := ts }

/-- R61, R62, R195–R199: a word step that does not close a pass: the little-endian word of the two bytes at POS goes to
the one accumulator field of the entry under the cursor, and the cursor advances. -/
def Obligations.WordStepUpdatesOneField : Prop :=
  ∀ (s : State) (ts : List Turn) (b0 b1 : Byte) (j : Fin 11),
    s.turns = .engine :: ts → s.ENG = .walk → s.POS.toNat + 2 ≤ s.BLEN.toNat →
    s.BUF[s.POS.toNat]? = some b0 → s.BUF[s.POS.toNat + 1]? = some b1 → j.val = s.CUR.toNat →
    s.CUR + 1 ≠ s.SL_LEN →
    ∃ acc : Acc,
      step s = .next { s with turns := ts, POS := s.POS + 2, ACC := acc, CUR := s.CUR + 1 } ∧
      (∀ c : Fin 8, (acc.A.get c).toNat =
        if s.SL.get j = .analog c then b0.toNat + 256 * b1.toNat else (s.ACC.A.get c).toNat) ∧
      acc.D = (if s.SL.get j = .digitals then b1 else s.ACC.D) ∧
      acc.RT.toNat = (if s.SL.get j = .rate then b0.toNat + 256 * b1.toNat else s.ACC.RT.toNat) ∧
      acc.CT.toNat = (if s.SL.get j = .count then b0.toNat + 256 * b1.toNat else s.ACC.CT.toNat)

/-- R199, R200: the word step that closes a pass: the cursor wraps to 0, the record of the updated accumulator is
presented under the current packet number, the packet number advances, and the Engine waits. -/
def Obligations.WordStepClosesAPass : Prop :=
  ∀ (s : State) (ts : List Turn) (b0 b1 : Byte) (j : Fin 11),
    s.turns = .engine :: ts → s.ENG = .walk → s.POS.toNat + 2 ≤ s.BLEN.toNat →
    s.BUF[s.POS.toNat]? = some b0 → s.BUF[s.POS.toNat + 1]? = some b1 → j.val = s.CUR.toNat →
    s.CUR + 1 = s.SL_LEN →
    ∃ rec : RecWord,
      rec = { s with ACC := s.ACC.update (s.SL.get j) (wordOf b0 b1) }.record.pack ∧
      step s = .next
        { s with
          turns := ts, POS := s.POS + 2, ACC := s.ACC.update (s.SL.get j) (wordOf b0 b1), CUR := 0
          OUT := rec, PKT := s.PKT + 1, recs := s.recs ++ [rec], ENG := .waitConsumer }

/-- R201: end of buffer: the buffer is emptied, the Engine goes to TOP, and a lone last byte is kept under carry and
discarded under drop. -/
def Obligations.EndOfBufferKeepsTheOddByte : Prop :=
  ∀ (s : State) (ts : List Turn), s.turns = .engine :: ts → s.ENG = .walk → s.BLEN.toNat < s.POS.toNat + 2 →
    (∀ b, s.BLEN.toNat = s.POS.toNat + 1 → s.params.oddByte = .carry → s.BUF[s.POS.toNat]? = some b →
      step s = .next
        { s with turns := ts, RES_B := b, RES_V := true, BUF := [], BLEN := 0, POS := 0, ENG := .top }) ∧
    (s.BLEN.toNat ≠ s.POS.toNat + 1 ∨ s.params.oddByte = .drop →
      step s = .next { s with turns := ts, BUF := [], BLEN := 0, POS := 0, ENG := .top })

/-- R202, R203, R204: the Consumer's answer: continue resumes the walk; stop with SCAN = Scanning is the forced stop,
with one STOP emitted and the chunk and residual byte discarded; stop with SCAN = Idle makes the Engine FATAL and
changes nothing else. -/
def Obligations.ConsumerAnswerOutcomes : Prop :=
  ∀ (s : State) (ts : List Turn) (c : Bool), s.turns = .consumer c :: ts → s.ENG = .waitConsumer →
    (c = true → step s = .next { s with turns := ts, answers := s.answers ++ [true], ENG := .walk }) ∧
    (c = false → s.SCAN = .scanning → step s = .next
      { s with
        turns := ts, answers := s.answers ++ [false], DEVQ := s.DEVQ ++ [.stop], SCAN := .idle
        BUF := [], BLEN := 0, POS := 0, RES_V := false, RES_B := 0, ENG := .stopped }) ∧
    (c = false → s.SCAN = .idle →
      step s = .next { s with turns := ts, answers := s.answers ++ [false], ENG := .fatal })

/-! ## Whole-machine rules -/

/-- R261: "An error changes no state": a command that answers with a status other than OK gives one response, with
data 0, and writes nothing else. -/
def Obligations.ErrorChangesNoState : Prop :=
  ∀ (i : Instr) (s t : State) (st : Status) (d : Field56), exec i s = .next t → t.rsps = s.rsps ++ [rspWord st d] →
    st ≠ .ok → d = 0 ∧ t = { s with rsps := t.rsps }

/-- R67: "RDREG, RDSL, CNT, PKTW, RPP, TMO, CVTV and CVTF change no state; reading is idempotent": they answer once,
and on the state they leave they answer the same. -/
def Obligations.QueriesChangeNoState : Prop :=
  ∀ (i : Instr) (s : State), IsQuery i →
    ∃ r : RspWord, exec i s = .next { s with rsps := s.rsps ++ [r] } ∧
      exec i { s with rsps := s.rsps ++ [r] } = .next { s with rsps := s.rsps ++ [r, r] }

/-- R66, R81, R162: every command answers a next state, with exactly one response, but for a START that holds, which
answers none. -/
def Obligations.EveryCommandAnswersOnce : Prop :=
  ∀ (i : Instr) (s : State), ∃ t, exec i s = .next t ∧
    ((∃ r, t.rsps = s.rsps ++ [r]) ∨ (i = .start ∧ t = { s with held := true } ∧ s.ENG ≠ .stopped))

/-- R71, R72, R191: a read is issued only in the Engine's turn, at its loop top with SCAN = Scanning, and then one; so
after a STOP no read is issued. -/
def Obligations.NoReadWhileIdle : Prop :=
  ∀ s t : State, NoResetNext s → step s = .next t →
    t.reads = s.reads ∨ (s.turns.head? = some .engine ∧ s.SCAN = .scanning ∧ s.ENG = .top ∧ t.ENG = .readPending ∧
      ∃ r, t.reads = s.reads ++ [r])

/-- R33, R34, R73: but for reset the scan list and the snapshots are written only by the Host's turn on a START, which
finds ENG = STOPPED and leaves it at TOP with SCAN = Scanning; so the Engine never sees them change during a session. -/
def Obligations.SessionIsWrittenOnlyByStart : Prop :=
  ∀ s t : State, NoResetNext s → step s = .next t →
    SameSession s t ∨ (TakesStart s ∧ s.ENG = .stopped ∧ t.ENG = .top ∧ t.SCAN = .scanning)

/-- R21–R25, R28–R31, R297: "Mutators are refused while SCAN = Scanning": no step but reset changes a configuration
register while SCAN = Scanning. -/
def Obligations.ConfigIsFrozenWhileScanning : Prop :=
  ∀ s t : State, NoResetNext s → s.SCAN = .scanning → step s = .next t → SameConfig s t

/-- R32: but for reset SCAN goes to Scanning only by a START, held or taken, on a stopped Engine, and to Idle only by
the Host's STOP command, which leaves ENG, or by a forced stop, each of which emits exactly one STOP. -/
def Obligations.ScanChangesOnlyByStartAndStop : Prop :=
  ∀ s t : State, NoResetNext s → step s = .next t →
    (s.SCAN = .idle → t.SCAN = .scanning → TakesStart s ∧ s.ENG = .stopped ∧ t.ENG = .top) ∧
    (s.SCAN = .scanning → t.SCAN = .idle → t.DEVQ = s.DEVQ ++ [.stop] ∧
      ((TakesCommand s .stop ∧ t.ENG = s.ENG) ∨
        (s.turns.head? = some (.consumer false) ∧ s.ENG = .waitConsumer ∧ t.ENG = .stopped)))

/-- R42, R75, R76: the port logs only grow: what was emitted, presented, answered or issued stays, in its order. -/
def Obligations.PortLogsOnlyGrow : Prop :=
  ∀ s t : State, NoResetNext s → step s = .next t →
    s.DEVQ <+: t.DEVQ ∧ s.recs <+: t.recs ∧ s.answers <+: t.answers ∧ s.reads <+: t.reads ∧ s.rsps <+: t.rsps

/-- R40, R75, R200: a step presents at most one record; it carries the packet number PKT, and PKT then advances by 1
mod 2^64. Every other step but reset leaves PKT, but for a START, held or taken, which sets it to 0. -/
def Obligations.RecordsCarryConsecutiveNumbers : Prop :=
  ∀ s t : State, NoResetNext s → step s = .next t →
    (t.recs = s.recs ∧ (t.PKT = s.PKT ∨ (t.PKT = 0 ∧ TakesStart s ∧ s.ENG = .stopped ∧ t.ENG = .top))) ∨
    (∃ r, t.recs = s.recs ++ [r] ∧ r.extractLsb' 0 64 = s.PKT ∧ t.PKT = s.PKT + 1 ∧
      s.ENG = .walk ∧ t.ENG = .waitConsumer)

/-- R204, R205, R263: with ENG = FATAL no step but reset leaves FATAL, presents a record, issues a read, takes an answer
or writes a register of the decoder (R33–R41): scan list, snapshots, cursor, accumulator, residual byte, chunk buffer
with its length and position, packet number, record register. -/
def Obligations.FatalIsStickyUntilReset : Prop :=
  ∀ s t : State, NoResetNext s → s.ENG = .fatal → step s = .next t →
    t.ENG = .fatal ∧ t.recs = s.recs ∧ t.reads = s.reads ∧ t.answers = s.answers ∧ SameSession s t ∧
      t.PKT = s.PKT ∧ t.CUR = s.CUR ∧ t.ACC = s.ACC ∧ t.BUF = s.BUF ∧ t.BLEN = s.BLEN ∧ t.POS = s.POS ∧
      t.RES_V = s.RES_V ∧ t.RES_B = s.RES_B ∧ t.OUT = s.OUT

/-- R207: with ENG = STOPPED "the Engine has no step; only START leaves it (to TOP)": a step but reset (which leaves
ENG = STOPPED) leaves STOPPED only by the Host's turn on a START, held or taken, to TOP, with SCAN = Scanning. -/
def Obligations.OnlyStartLeavesStopped : Prop :=
  ∀ s t : State, NoResetNext s → s.ENG = .stopped → step s = .next t → t.ENG ≠ .stopped →
    TakesStart s ∧ t.ENG = .top ∧ t.SCAN = .scanning

/-- The state after reset meets the invariant of Safety.lean. -/
def Obligations.ResetMeetsTheInvariant : Prop :=
  State.reset.Inv

/-- The invariant of Safety.lean: the legal values of the registers and their relations are kept by every step. -/
def Obligations.StepKeepsTheInvariant : Prop :=
  ∀ s t : State, s.Inv → step s = .next t → t.Inv

/-- From a state of the invariant a step neither faults nor is refused: ordinary data never stops the block (R206). -/
def Obligations.NoStopUnderTheInvariant : Prop :=
  ∀ s : State, s.Inv → ∃ t, step s = .next t

/-- R210: the stream-position law. With ODD_BYTE_POLICY = carry, from the start of a session, after any number of steps
of any interleaving with no reset, no forced stop and no new session: the records presented are exactly the first
⌊m / SL_LEN⌋ records read from the whole delivered byte sequence, where m words have been formed, however the bytes were
split into chunks; the cursor is m mod SL_LEN and 2m bytes have been used. -/
def Obligations.RecordsAreThoseOfTheStream : Prop :=
  ∀ (s t : State) (n : Nat), s.Inv → s.FreshSession → s.OneSession → s.params.oddByte = .carry →
    Host.Core.run core n s = .next t →
    ∃ m : Nat,
      2 * m + t.bytesLeft = (delivered n s).length ∧
      t.recs = s.recs ++ (List.range (m / s.SL_LEN.toNat)).map
        (fun k => (streamRecord s.slots s.SNAP_RANGE (wordsOf (delivered n s)) k).pack) ∧
      t.CUR.toNat = m % s.SL_LEN.toNat ∧ t.PKT = BitVec.ofNat 64 (m / s.SL_LEN.toNat)
end

