-- ==== Sys2Proof/Laws/State.lean ====
section
/-! SUPPORT. One lemma per field for each named update of the state, so that no proof unfolds a record update; and what
the derived values (NINPUTS, ENDO, the slots in use) read from an updated state. -/

namespace Sys2Proof.Machine

section
variable (s : State)

@[simp] theorem State.respond_AEN (st : Status) (data : Field56) : (s.respond st data).AEN = s.AEN := rfl
@[simp] theorem State.respond_DEN (st : Status) (data : Field56) : (s.respond st data).DEN = s.DEN := rfl
@[simp] theorem State.respond_REN (st : Status) (data : Field56) : (s.respond st data).REN = s.REN := rfl
@[simp] theorem State.respond_RRANGE (st : Status) (data : Field56) : (s.respond st data).RRANGE = s.RRANGE := rfl
@[simp] theorem State.respond_CEN (st : Status) (data : Field56) : (s.respond st data).CEN = s.CEN := rfl
@[simp] theorem State.respond_SRATE (st : Status) (data : Field56) : (s.respond st data).SRATE = s.SRATE := rfl
@[simp] theorem State.respond_DEC (st : Status) (data : Field56) : (s.respond st data).DEC = s.DEC := rfl
@[simp] theorem State.respond_FILT (st : Status) (data : Field56) : (s.respond st data).FILT = s.FILT := rfl
@[simp] theorem State.respond_PSC (st : Status) (data : Field56) : (s.respond st data).PSC = s.PSC := rfl
@[simp] theorem State.respond_SCAN (st : Status) (data : Field56) : (s.respond st data).SCAN = s.SCAN := rfl
@[simp] theorem State.respond_SL (st : Status) (data : Field56) : (s.respond st data).SL = s.SL := rfl
@[simp] theorem State.respond_SL_LEN (st : Status) (data : Field56) : (s.respond st data).SL_LEN = s.SL_LEN := rfl
@[simp] theorem State.respond_SNAP_RANGE (st : Status) (data : Field56) :
    (s.respond st data).SNAP_RANGE = s.SNAP_RANGE := rfl
@[simp] theorem State.respond_SNAP_W (st : Status) (data : Field56) : (s.respond st data).SNAP_W = s.SNAP_W := rfl
@[simp] theorem State.respond_SNAP_TMO (st : Status) (data : Field56) :
    (s.respond st data).SNAP_TMO = s.SNAP_TMO := rfl
@[simp] theorem State.respond_ENG (st : Status) (data : Field56) : (s.respond st data).ENG = s.ENG := rfl
@[simp] theorem State.respond_CUR (st : Status) (data : Field56) : (s.respond st data).CUR = s.CUR := rfl
@[simp] theorem State.respond_ACC (st : Status) (data : Field56) : (s.respond st data).ACC = s.ACC := rfl
@[simp] theorem State.respond_RES_V (st : Status) (data : Field56) : (s.respond st data).RES_V = s.RES_V := rfl
@[simp] theorem State.respond_RES_B (st : Status) (data : Field56) : (s.respond st data).RES_B = s.RES_B := rfl
@[simp] theorem State.respond_BUF (st : Status) (data : Field56) : (s.respond st data).BUF = s.BUF := rfl
@[simp] theorem State.respond_BLEN (st : Status) (data : Field56) : (s.respond st data).BLEN = s.BLEN := rfl
@[simp] theorem State.respond_POS (st : Status) (data : Field56) : (s.respond st data).POS = s.POS := rfl
@[simp] theorem State.respond_PKT (st : Status) (data : Field56) : (s.respond st data).PKT = s.PKT := rfl
@[simp] theorem State.respond_OUT (st : Status) (data : Field56) : (s.respond st data).OUT = s.OUT := rfl
@[simp] theorem State.respond_DEVQ (st : Status) (data : Field56) : (s.respond st data).DEVQ = s.DEVQ := rfl
@[simp] theorem State.respond_held (st : Status) (data : Field56) : (s.respond st data).held = s.held := rfl
@[simp] theorem State.respond_params (st : Status) (data : Field56) : (s.respond st data).params = s.params := rfl
@[simp] theorem State.respond_turns (st : Status) (data : Field56) : (s.respond st data).turns = s.turns := rfl
@[simp] theorem State.respond_cmds (st : Status) (data : Field56) : (s.respond st data).cmds = s.cmds := rfl
@[simp] theorem State.respond_rsps (st : Status) (data : Field56) :
    (s.respond st data).rsps = s.rsps ++ [rspWord st data] := rfl
@[simp] theorem State.respond_reads (st : Status) (data : Field56) : (s.respond st data).reads = s.reads := rfl
@[simp] theorem State.respond_recs (st : Status) (data : Field56) : (s.respond st data).recs = s.recs := rfl
@[simp] theorem State.respond_answers (st : Status) (data : Field56) : (s.respond st data).answers = s.answers := rfl

@[simp] theorem State.raise_AEN (st : Status) : (s.raise st).AEN = s.AEN := rfl
@[simp] theorem State.raise_DEN (st : Status) : (s.raise st).DEN = s.DEN := rfl
@[simp] theorem State.raise_REN (st : Status) : (s.raise st).REN = s.REN := rfl
@[simp] theorem State.raise_RRANGE (st : Status) : (s.raise st).RRANGE = s.RRANGE := rfl
@[simp] theorem State.raise_CEN (st : Status) : (s.raise st).CEN = s.CEN := rfl
@[simp] theorem State.raise_SRATE (st : Status) : (s.raise st).SRATE = s.SRATE := rfl
@[simp] theorem State.raise_DEC (st : Status) : (s.raise st).DEC = s.DEC := rfl
@[simp] theorem State.raise_FILT (st : Status) : (s.raise st).FILT = s.FILT := rfl
@[simp] theorem State.raise_PSC (st : Status) : (s.raise st).PSC = s.PSC := rfl
@[simp] theorem State.raise_SCAN (st : Status) : (s.raise st).SCAN = s.SCAN := rfl
@[simp] theorem State.raise_SL (st : Status) : (s.raise st).SL = s.SL := rfl
@[simp] theorem State.raise_SL_LEN (st : Status) : (s.raise st).SL_LEN = s.SL_LEN := rfl
@[simp] theorem State.raise_SNAP_RANGE (st : Status) : (s.raise st).SNAP_RANGE = s.SNAP_RANGE := rfl
@[simp] theorem State.raise_SNAP_W (st : Status) : (s.raise st).SNAP_W = s.SNAP_W := rfl
@[simp] theorem State.raise_SNAP_TMO (st : Status) : (s.raise st).SNAP_TMO = s.SNAP_TMO := rfl
@[simp] theorem State.raise_ENG (st : Status) : (s.raise st).ENG = s.ENG := rfl
@[simp] theorem State.raise_CUR (st : Status) : (s.raise st).CUR = s.CUR := rfl
@[simp] theorem State.raise_ACC (st : Status) : (s.raise st).ACC = s.ACC := rfl
@[simp] theorem State.raise_RES_V (st : Status) : (s.raise st).RES_V = s.RES_V := rfl
@[simp] theorem State.raise_RES_B (st : Status) : (s.raise st).RES_B = s.RES_B := rfl
@[simp] theorem State.raise_BUF (st : Status) : (s.raise st).BUF = s.BUF := rfl
@[simp] theorem State.raise_BLEN (st : Status) : (s.raise st).BLEN = s.BLEN := rfl
@[simp] theorem State.raise_POS (st : Status) : (s.raise st).POS = s.POS := rfl
@[simp] theorem State.raise_PKT (st : Status) : (s.raise st).PKT = s.PKT := rfl
@[simp] theorem State.raise_OUT (st : Status) : (s.raise st).OUT = s.OUT := rfl
@[simp] theorem State.raise_DEVQ (st : Status) : (s.raise st).DEVQ = s.DEVQ := rfl
@[simp] theorem State.raise_held (st : Status) : (s.raise st).held = s.held := rfl
@[simp] theorem State.raise_params (st : Status) : (s.raise st).params = s.params := rfl
@[simp] theorem State.raise_turns (st : Status) : (s.raise st).turns = s.turns := rfl
@[simp] theorem State.raise_cmds (st : Status) : (s.raise st).cmds = s.cmds := rfl
@[simp] theorem State.raise_rsps (st : Status) : (s.raise st).rsps = s.rsps ++ [rspWord st 0] := rfl
@[simp] theorem State.raise_reads (st : Status) : (s.raise st).reads = s.reads := rfl
@[simp] theorem State.raise_recs (st : Status) : (s.raise st).recs = s.recs := rfl
@[simp] theorem State.raise_answers (st : Status) : (s.raise st).answers = s.answers := rfl

@[simp] theorem State.emit_AEN (ds : List DevCmd) : (s.emit ds).AEN = s.AEN := rfl
@[simp] theorem State.emit_DEN (ds : List DevCmd) : (s.emit ds).DEN = s.DEN := rfl
@[simp] theorem State.emit_REN (ds : List DevCmd) : (s.emit ds).REN = s.REN := rfl
@[simp] theorem State.emit_RRANGE (ds : List DevCmd) : (s.emit ds).RRANGE = s.RRANGE := rfl
@[simp] theorem State.emit_CEN (ds : List DevCmd) : (s.emit ds).CEN = s.CEN := rfl
@[simp] theorem State.emit_SRATE (ds : List DevCmd) : (s.emit ds).SRATE = s.SRATE := rfl
@[simp] theorem State.emit_DEC (ds : List DevCmd) : (s.emit ds).DEC = s.DEC := rfl
@[simp] theorem State.emit_FILT (ds : List DevCmd) : (s.emit ds).FILT = s.FILT := rfl
@[simp] theorem State.emit_PSC (ds : List DevCmd) : (s.emit ds).PSC = s.PSC := rfl
@[simp] theorem State.emit_SCAN (ds : List DevCmd) : (s.emit ds).SCAN = s.SCAN := rfl
@[simp] theorem State.emit_SL (ds : List DevCmd) : (s.emit ds).SL = s.SL := rfl
@[simp] theorem State.emit_SL_LEN (ds : List DevCmd) : (s.emit ds).SL_LEN = s.SL_LEN := rfl
@[simp] theorem State.emit_SNAP_RANGE (ds : List DevCmd) : (s.emit ds).SNAP_RANGE = s.SNAP_RANGE := rfl
@[simp] theorem State.emit_SNAP_W (ds : List DevCmd) : (s.emit ds).SNAP_W = s.SNAP_W := rfl
@[simp] theorem State.emit_SNAP_TMO (ds : List DevCmd) : (s.emit ds).SNAP_TMO = s.SNAP_TMO := rfl
@[simp] theorem State.emit_ENG (ds : List DevCmd) : (s.emit ds).ENG = s.ENG := rfl
@[simp] theorem State.emit_CUR (ds : List DevCmd) : (s.emit ds).CUR = s.CUR := rfl
@[simp] theorem State.emit_ACC (ds : List DevCmd) : (s.emit ds).ACC = s.ACC := rfl
@[simp] theorem State.emit_RES_V (ds : List DevCmd) : (s.emit ds).RES_V = s.RES_V := rfl
@[simp] theorem State.emit_RES_B (ds : List DevCmd) : (s.emit ds).RES_B = s.RES_B := rfl
@[simp] theorem State.emit_BUF (ds : List DevCmd) : (s.emit ds).BUF = s.BUF := rfl
@[simp] theorem State.emit_BLEN (ds : List DevCmd) : (s.emit ds).BLEN = s.BLEN := rfl
@[simp] theorem State.emit_POS (ds : List DevCmd) : (s.emit ds).POS = s.POS := rfl
@[simp] theorem State.emit_PKT (ds : List DevCmd) : (s.emit ds).PKT = s.PKT := rfl
@[simp] theorem State.emit_OUT (ds : List DevCmd) : (s.emit ds).OUT = s.OUT := rfl
@[simp] theorem State.emit_DEVQ (ds : List DevCmd) : (s.emit ds).DEVQ = s.DEVQ ++ ds := rfl
@[simp] theorem State.emit_held (ds : List DevCmd) : (s.emit ds).held = s.held := rfl
@[simp] theorem State.emit_params (ds : List DevCmd) : (s.emit ds).params = s.params := rfl
@[simp] theorem State.emit_turns (ds : List DevCmd) : (s.emit ds).turns = s.turns := rfl
@[simp] theorem State.emit_cmds (ds : List DevCmd) : (s.emit ds).cmds = s.cmds := rfl
@[simp] theorem State.emit_rsps (ds : List DevCmd) : (s.emit ds).rsps = s.rsps := rfl
@[simp] theorem State.emit_reads (ds : List DevCmd) : (s.emit ds).reads = s.reads := rfl
@[simp] theorem State.emit_recs (ds : List DevCmd) : (s.emit ds).recs = s.recs := rfl
@[simp] theorem State.emit_answers (ds : List DevCmd) : (s.emit ds).answers = s.answers := rfl

@[simp] theorem State.issueRead_AEN : (s.issueRead).AEN = s.AEN := rfl
@[simp] theorem State.issueRead_DEN : (s.issueRead).DEN = s.DEN := rfl
@[simp] theorem State.issueRead_REN : (s.issueRead).REN = s.REN := rfl
@[simp] theorem State.issueRead_RRANGE : (s.issueRead).RRANGE = s.RRANGE := rfl
@[simp] theorem State.issueRead_CEN : (s.issueRead).CEN = s.CEN := rfl
@[simp] theorem State.issueRead_SRATE : (s.issueRead).SRATE = s.SRATE := rfl
@[simp] theorem State.issueRead_DEC : (s.issueRead).DEC = s.DEC := rfl
@[simp] theorem State.issueRead_FILT : (s.issueRead).FILT = s.FILT := rfl
@[simp] theorem State.issueRead_PSC : (s.issueRead).PSC = s.PSC := rfl
@[simp] theorem State.issueRead_SCAN : (s.issueRead).SCAN = s.SCAN := rfl
@[simp] theorem State.issueRead_SL : (s.issueRead).SL = s.SL := rfl
@[simp] theorem State.issueRead_SL_LEN : (s.issueRead).SL_LEN = s.SL_LEN := rfl
@[simp] theorem State.issueRead_SNAP_RANGE : (s.issueRead).SNAP_RANGE = s.SNAP_RANGE := rfl
@[simp] theorem State.issueRead_SNAP_W : (s.issueRead).SNAP_W = s.SNAP_W := rfl
@[simp] theorem State.issueRead_SNAP_TMO : (s.issueRead).SNAP_TMO = s.SNAP_TMO := rfl
@[simp] theorem State.issueRead_ENG : (s.issueRead).ENG = s.ENG := rfl
@[simp] theorem State.issueRead_CUR : (s.issueRead).CUR = s.CUR := rfl
@[simp] theorem State.issueRead_ACC : (s.issueRead).ACC = s.ACC := rfl
@[simp] theorem State.issueRead_RES_V : (s.issueRead).RES_V = s.RES_V := rfl
@[simp] theorem State.issueRead_RES_B : (s.issueRead).RES_B = s.RES_B := rfl
@[simp] theorem State.issueRead_BUF : (s.issueRead).BUF = s.BUF := rfl
@[simp] theorem State.issueRead_BLEN : (s.issueRead).BLEN = s.BLEN := rfl
@[simp] theorem State.issueRead_POS : (s.issueRead).POS = s.POS := rfl
@[simp] theorem State.issueRead_PKT : (s.issueRead).PKT = s.PKT := rfl
@[simp] theorem State.issueRead_OUT : (s.issueRead).OUT = s.OUT := rfl
@[simp] theorem State.issueRead_DEVQ : (s.issueRead).DEVQ = s.DEVQ := rfl
@[simp] theorem State.issueRead_held : (s.issueRead).held = s.held := rfl
@[simp] theorem State.issueRead_params : (s.issueRead).params = s.params := rfl
@[simp] theorem State.issueRead_turns : (s.issueRead).turns = s.turns := rfl
@[simp] theorem State.issueRead_cmds : (s.issueRead).cmds = s.cmds := rfl
@[simp] theorem State.issueRead_rsps : (s.issueRead).rsps = s.rsps := rfl
@[simp] theorem State.issueRead_reads :
    (s.issueRead).reads = s.reads ++ [{ maxLength := 2 * s.SNAP_W.toNat, timeoutMs := s.SNAP_TMO }] := rfl
@[simp] theorem State.issueRead_recs : (s.issueRead).recs = s.recs := rfl
@[simp] theorem State.issueRead_answers : (s.issueRead).answers = s.answers := rfl

@[simp] theorem State.present_AEN : (s.present).AEN = s.AEN := rfl
@[simp] theorem State.present_DEN : (s.present).DEN = s.DEN := rfl
@[simp] theorem State.present_REN : (s.present).REN = s.REN := rfl
@[simp] theorem State.present_RRANGE : (s.present).RRANGE = s.RRANGE := rfl
@[simp] theorem State.present_CEN : (s.present).CEN = s.CEN := rfl
@[simp] theorem State.present_SRATE : (s.present).SRATE = s.SRATE := rfl
@[simp] theorem State.present_DEC : (s.present).DEC = s.DEC := rfl
@[simp] theorem State.present_FILT : (s.present).FILT = s.FILT := rfl
@[simp] theorem State.present_PSC : (s.present).PSC = s.PSC := rfl
@[simp] theorem State.present_SCAN : (s.present).SCAN = s.SCAN := rfl
@[simp] theorem State.present_SL : (s.present).SL = s.SL := rfl
@[simp] theorem State.present_SL_LEN : (s.present).SL_LEN = s.SL_LEN := rfl
@[simp] theorem State.present_SNAP_RANGE : (s.present).SNAP_RANGE = s.SNAP_RANGE := rfl
@[simp] theorem State.present_SNAP_W : (s.present).SNAP_W = s.SNAP_W := rfl
@[simp] theorem State.present_SNAP_TMO : (s.present).SNAP_TMO = s.SNAP_TMO := rfl
@[simp] theorem State.present_ENG : (s.present).ENG = s.ENG := rfl
@[simp] theorem State.present_CUR : (s.present).CUR = s.CUR := rfl
@[simp] theorem State.present_ACC : (s.present).ACC = s.ACC := rfl
@[simp] theorem State.present_RES_V : (s.present).RES_V = s.RES_V := rfl
@[simp] theorem State.present_RES_B : (s.present).RES_B = s.RES_B := rfl
@[simp] theorem State.present_BUF : (s.present).BUF = s.BUF := rfl
@[simp] theorem State.present_BLEN : (s.present).BLEN = s.BLEN := rfl
@[simp] theorem State.present_POS : (s.present).POS = s.POS := rfl
@[simp] theorem State.present_PKT : (s.present).PKT = s.PKT := rfl
@[simp] theorem State.present_OUT : (s.present).OUT = s.OUT := rfl
@[simp] theorem State.present_DEVQ : (s.present).DEVQ = s.DEVQ := rfl
@[simp] theorem State.present_held : (s.present).held = s.held := rfl
@[simp] theorem State.present_params : (s.present).params = s.params := rfl
@[simp] theorem State.present_turns : (s.present).turns = s.turns := rfl
@[simp] theorem State.present_cmds : (s.present).cmds = s.cmds := rfl
@[simp] theorem State.present_rsps : (s.present).rsps = s.rsps := rfl
@[simp] theorem State.present_reads : (s.present).reads = s.reads := rfl
@[simp] theorem State.present_recs : (s.present).recs = s.recs ++ [s.OUT] := rfl
@[simp] theorem State.present_answers : (s.present).answers = s.answers := rfl

@[simp] theorem State.answered_AEN (c : Bool) : (s.answered c).AEN = s.AEN := rfl
@[simp] theorem State.answered_DEN (c : Bool) : (s.answered c).DEN = s.DEN := rfl
@[simp] theorem State.answered_REN (c : Bool) : (s.answered c).REN = s.REN := rfl
@[simp] theorem State.answered_RRANGE (c : Bool) : (s.answered c).RRANGE = s.RRANGE := rfl
@[simp] theorem State.answered_CEN (c : Bool) : (s.answered c).CEN = s.CEN := rfl
@[simp] theorem State.answered_SRATE (c : Bool) : (s.answered c).SRATE = s.SRATE := rfl
@[simp] theorem State.answered_DEC (c : Bool) : (s.answered c).DEC = s.DEC := rfl
@[simp] theorem State.answered_FILT (c : Bool) : (s.answered c).FILT = s.FILT := rfl
@[simp] theorem State.answered_PSC (c : Bool) : (s.answered c).PSC = s.PSC := rfl
@[simp] theorem State.answered_SCAN (c : Bool) : (s.answered c).SCAN = s.SCAN := rfl
@[simp] theorem State.answered_SL (c : Bool) : (s.answered c).SL = s.SL := rfl
@[simp] theorem State.answered_SL_LEN (c : Bool) : (s.answered c).SL_LEN = s.SL_LEN := rfl
@[simp] theorem State.answered_SNAP_RANGE (c : Bool) : (s.answered c).SNAP_RANGE = s.SNAP_RANGE := rfl
@[simp] theorem State.answered_SNAP_W (c : Bool) : (s.answered c).SNAP_W = s.SNAP_W := rfl
@[simp] theorem State.answered_SNAP_TMO (c : Bool) : (s.answered c).SNAP_TMO = s.SNAP_TMO := rfl
@[simp] theorem State.answered_ENG (c : Bool) : (s.answered c).ENG = s.ENG := rfl
@[simp] theorem State.answered_CUR (c : Bool) : (s.answered c).CUR = s.CUR := rfl
@[simp] theorem State.answered_ACC (c : Bool) : (s.answered c).ACC = s.ACC := rfl
@[simp] theorem State.answered_RES_V (c : Bool) : (s.answered c).RES_V = s.RES_V := rfl
@[simp] theorem State.answered_RES_B (c : Bool) : (s.answered c).RES_B = s.RES_B := rfl
@[simp] theorem State.answered_BUF (c : Bool) : (s.answered c).BUF = s.BUF := rfl
@[simp] theorem State.answered_BLEN (c : Bool) : (s.answered c).BLEN = s.BLEN := rfl
@[simp] theorem State.answered_POS (c : Bool) : (s.answered c).POS = s.POS := rfl
@[simp] theorem State.answered_PKT (c : Bool) : (s.answered c).PKT = s.PKT := rfl
@[simp] theorem State.answered_OUT (c : Bool) : (s.answered c).OUT = s.OUT := rfl
@[simp] theorem State.answered_DEVQ (c : Bool) : (s.answered c).DEVQ = s.DEVQ := rfl
@[simp] theorem State.answered_held (c : Bool) : (s.answered c).held = s.held := rfl
@[simp] theorem State.answered_params (c : Bool) : (s.answered c).params = s.params := rfl
@[simp] theorem State.answered_turns (c : Bool) : (s.answered c).turns = s.turns := rfl
@[simp] theorem State.answered_cmds (c : Bool) : (s.answered c).cmds = s.cmds := rfl
@[simp] theorem State.answered_rsps (c : Bool) : (s.answered c).rsps = s.rsps := rfl
@[simp] theorem State.answered_reads (c : Bool) : (s.answered c).reads = s.reads := rfl
@[simp] theorem State.answered_recs (c : Bool) : (s.answered c).recs = s.recs := rfl
@[simp] theorem State.answered_answers (c : Bool) : (s.answered c).answers = s.answers ++ [c] := rfl

@[simp] theorem State.loadBuffer_AEN (bs : List Byte) : (s.loadBuffer bs).AEN = s.AEN := rfl
@[simp] theorem State.loadBuffer_DEN (bs : List Byte) : (s.loadBuffer bs).DEN = s.DEN := rfl
@[simp] theorem State.loadBuffer_REN (bs : List Byte) : (s.loadBuffer bs).REN = s.REN := rfl
@[simp] theorem State.loadBuffer_RRANGE (bs : List Byte) : (s.loadBuffer bs).RRANGE = s.RRANGE := rfl
@[simp] theorem State.loadBuffer_CEN (bs : List Byte) : (s.loadBuffer bs).CEN = s.CEN := rfl
@[simp] theorem State.loadBuffer_SRATE (bs : List Byte) : (s.loadBuffer bs).SRATE = s.SRATE := rfl
@[simp] theorem State.loadBuffer_DEC (bs : List Byte) : (s.loadBuffer bs).DEC = s.DEC := rfl
@[simp] theorem State.loadBuffer_FILT (bs : List Byte) : (s.loadBuffer bs).FILT = s.FILT := rfl
@[simp] theorem State.loadBuffer_PSC (bs : List Byte) : (s.loadBuffer bs).PSC = s.PSC := rfl
@[simp] theorem State.loadBuffer_SCAN (bs : List Byte) : (s.loadBuffer bs).SCAN = s.SCAN := rfl
@[simp] theorem State.loadBuffer_SL (bs : List Byte) : (s.loadBuffer bs).SL = s.SL := rfl
@[simp] theorem State.loadBuffer_SL_LEN (bs : List Byte) : (s.loadBuffer bs).SL_LEN = s.SL_LEN := rfl
@[simp] theorem State.loadBuffer_SNAP_RANGE (bs : List Byte) : (s.loadBuffer bs).SNAP_RANGE = s.SNAP_RANGE := rfl
@[simp] theorem State.loadBuffer_SNAP_W (bs : List Byte) : (s.loadBuffer bs).SNAP_W = s.SNAP_W := rfl
@[simp] theorem State.loadBuffer_SNAP_TMO (bs : List Byte) : (s.loadBuffer bs).SNAP_TMO = s.SNAP_TMO := rfl
@[simp] theorem State.loadBuffer_ENG (bs : List Byte) : (s.loadBuffer bs).ENG = s.ENG := rfl
@[simp] theorem State.loadBuffer_CUR (bs : List Byte) : (s.loadBuffer bs).CUR = s.CUR := rfl
@[simp] theorem State.loadBuffer_ACC (bs : List Byte) : (s.loadBuffer bs).ACC = s.ACC := rfl
@[simp] theorem State.loadBuffer_RES_V (bs : List Byte) : (s.loadBuffer bs).RES_V = s.RES_V := rfl
@[simp] theorem State.loadBuffer_RES_B (bs : List Byte) : (s.loadBuffer bs).RES_B = s.RES_B := rfl
@[simp] theorem State.loadBuffer_BUF (bs : List Byte) : (s.loadBuffer bs).BUF = bs := rfl
@[simp] theorem State.loadBuffer_BLEN (bs : List Byte) : (s.loadBuffer bs).BLEN = BitVec.ofNat 12 bs.length := rfl
@[simp] theorem State.loadBuffer_POS (bs : List Byte) : (s.loadBuffer bs).POS = 0 := rfl
@[simp] theorem State.loadBuffer_PKT (bs : List Byte) : (s.loadBuffer bs).PKT = s.PKT := rfl
@[simp] theorem State.loadBuffer_OUT (bs : List Byte) : (s.loadBuffer bs).OUT = s.OUT := rfl
@[simp] theorem State.loadBuffer_DEVQ (bs : List Byte) : (s.loadBuffer bs).DEVQ = s.DEVQ := rfl
@[simp] theorem State.loadBuffer_held (bs : List Byte) : (s.loadBuffer bs).held = s.held := rfl
@[simp] theorem State.loadBuffer_params (bs : List Byte) : (s.loadBuffer bs).params = s.params := rfl
@[simp] theorem State.loadBuffer_turns (bs : List Byte) : (s.loadBuffer bs).turns = s.turns := rfl
@[simp] theorem State.loadBuffer_cmds (bs : List Byte) : (s.loadBuffer bs).cmds = s.cmds := rfl
@[simp] theorem State.loadBuffer_rsps (bs : List Byte) : (s.loadBuffer bs).rsps = s.rsps := rfl
@[simp] theorem State.loadBuffer_reads (bs : List Byte) : (s.loadBuffer bs).reads = s.reads := rfl
@[simp] theorem State.loadBuffer_recs (bs : List Byte) : (s.loadBuffer bs).recs = s.recs := rfl
@[simp] theorem State.loadBuffer_answers (bs : List Byte) : (s.loadBuffer bs).answers = s.answers := rfl

@[simp] theorem State.dropBuffer_AEN : (s.dropBuffer).AEN = s.AEN := rfl
@[simp] theorem State.dropBuffer_DEN : (s.dropBuffer).DEN = s.DEN := rfl
@[simp] theorem State.dropBuffer_REN : (s.dropBuffer).REN = s.REN := rfl
@[simp] theorem State.dropBuffer_RRANGE : (s.dropBuffer).RRANGE = s.RRANGE := rfl
@[simp] theorem State.dropBuffer_CEN : (s.dropBuffer).CEN = s.CEN := rfl
@[simp] theorem State.dropBuffer_SRATE : (s.dropBuffer).SRATE = s.SRATE := rfl
@[simp] theorem State.dropBuffer_DEC : (s.dropBuffer).DEC = s.DEC := rfl
@[simp] theorem State.dropBuffer_FILT : (s.dropBuffer).FILT = s.FILT := rfl
@[simp] theorem State.dropBuffer_PSC : (s.dropBuffer).PSC = s.PSC := rfl
@[simp] theorem State.dropBuffer_SCAN : (s.dropBuffer).SCAN = s.SCAN := rfl
@[simp] theorem State.dropBuffer_SL : (s.dropBuffer).SL = s.SL := rfl
@[simp] theorem State.dropBuffer_SL_LEN : (s.dropBuffer).SL_LEN = s.SL_LEN := rfl
@[simp] theorem State.dropBuffer_SNAP_RANGE : (s.dropBuffer).SNAP_RANGE = s.SNAP_RANGE := rfl
@[simp] theorem State.dropBuffer_SNAP_W : (s.dropBuffer).SNAP_W = s.SNAP_W := rfl
@[simp] theorem State.dropBuffer_SNAP_TMO : (s.dropBuffer).SNAP_TMO = s.SNAP_TMO := rfl
@[simp] theorem State.dropBuffer_ENG : (s.dropBuffer).ENG = s.ENG := rfl
@[simp] theorem State.dropBuffer_CUR : (s.dropBuffer).CUR = s.CUR := rfl
@[simp] theorem State.dropBuffer_ACC : (s.dropBuffer).ACC = s.ACC := rfl
@[simp] theorem State.dropBuffer_RES_V : (s.dropBuffer).RES_V = s.RES_V := rfl
@[simp] theorem State.dropBuffer_RES_B : (s.dropBuffer).RES_B = s.RES_B := rfl
@[simp] theorem State.dropBuffer_BUF : (s.dropBuffer).BUF = [] := rfl
@[simp] theorem State.dropBuffer_BLEN : (s.dropBuffer).BLEN = 0 := rfl
@[simp] theorem State.dropBuffer_POS : (s.dropBuffer).POS = 0 := rfl
@[simp] theorem State.dropBuffer_PKT : (s.dropBuffer).PKT = s.PKT := rfl
@[simp] theorem State.dropBuffer_OUT : (s.dropBuffer).OUT = s.OUT := rfl
@[simp] theorem State.dropBuffer_DEVQ : (s.dropBuffer).DEVQ = s.DEVQ := rfl
@[simp] theorem State.dropBuffer_held : (s.dropBuffer).held = s.held := rfl
@[simp] theorem State.dropBuffer_params : (s.dropBuffer).params = s.params := rfl
@[simp] theorem State.dropBuffer_turns : (s.dropBuffer).turns = s.turns := rfl
@[simp] theorem State.dropBuffer_cmds : (s.dropBuffer).cmds = s.cmds := rfl
@[simp] theorem State.dropBuffer_rsps : (s.dropBuffer).rsps = s.rsps := rfl
@[simp] theorem State.dropBuffer_reads : (s.dropBuffer).reads = s.reads := rfl
@[simp] theorem State.dropBuffer_recs : (s.dropBuffer).recs = s.recs := rfl
@[simp] theorem State.dropBuffer_answers : (s.dropBuffer).answers = s.answers := rfl

@[simp] theorem State.clearResidual_AEN : (s.clearResidual).AEN = s.AEN := rfl
@[simp] theorem State.clearResidual_DEN : (s.clearResidual).DEN = s.DEN := rfl
@[simp] theorem State.clearResidual_REN : (s.clearResidual).REN = s.REN := rfl
@[simp] theorem State.clearResidual_RRANGE : (s.clearResidual).RRANGE = s.RRANGE := rfl
@[simp] theorem State.clearResidual_CEN : (s.clearResidual).CEN = s.CEN := rfl
@[simp] theorem State.clearResidual_SRATE : (s.clearResidual).SRATE = s.SRATE := rfl
@[simp] theorem State.clearResidual_DEC : (s.clearResidual).DEC = s.DEC := rfl
@[simp] theorem State.clearResidual_FILT : (s.clearResidual).FILT = s.FILT := rfl
@[simp] theorem State.clearResidual_PSC : (s.clearResidual).PSC = s.PSC := rfl
@[simp] theorem State.clearResidual_SCAN : (s.clearResidual).SCAN = s.SCAN := rfl
@[simp] theorem State.clearResidual_SL : (s.clearResidual).SL = s.SL := rfl
@[simp] theorem State.clearResidual_SL_LEN : (s.clearResidual).SL_LEN = s.SL_LEN := rfl
@[simp] theorem State.clearResidual_SNAP_RANGE : (s.clearResidual).SNAP_RANGE = s.SNAP_RANGE := rfl
@[simp] theorem State.clearResidual_SNAP_W : (s.clearResidual).SNAP_W = s.SNAP_W := rfl
@[simp] theorem State.clearResidual_SNAP_TMO : (s.clearResidual).SNAP_TMO = s.SNAP_TMO := rfl
@[simp] theorem State.clearResidual_ENG : (s.clearResidual).ENG = s.ENG := rfl
@[simp] theorem State.clearResidual_CUR : (s.clearResidual).CUR = s.CUR := rfl
@[simp] theorem State.clearResidual_ACC : (s.clearResidual).ACC = s.ACC := rfl
@[simp] theorem State.clearResidual_RES_V : (s.clearResidual).RES_V = false := rfl
@[simp] theorem State.clearResidual_RES_B : (s.clearResidual).RES_B = 0 := rfl
@[simp] theorem State.clearResidual_BUF : (s.clearResidual).BUF = s.BUF := rfl
@[simp] theorem State.clearResidual_BLEN : (s.clearResidual).BLEN = s.BLEN := rfl
@[simp] theorem State.clearResidual_POS : (s.clearResidual).POS = s.POS := rfl
@[simp] theorem State.clearResidual_PKT : (s.clearResidual).PKT = s.PKT := rfl
@[simp] theorem State.clearResidual_OUT : (s.clearResidual).OUT = s.OUT := rfl
@[simp] theorem State.clearResidual_DEVQ : (s.clearResidual).DEVQ = s.DEVQ := rfl
@[simp] theorem State.clearResidual_held : (s.clearResidual).held = s.held := rfl
@[simp] theorem State.clearResidual_params : (s.clearResidual).params = s.params := rfl
@[simp] theorem State.clearResidual_turns : (s.clearResidual).turns = s.turns := rfl
@[simp] theorem State.clearResidual_cmds : (s.clearResidual).cmds = s.cmds := rfl
@[simp] theorem State.clearResidual_rsps : (s.clearResidual).rsps = s.rsps := rfl
@[simp] theorem State.clearResidual_reads : (s.clearResidual).reads = s.reads := rfl
@[simp] theorem State.clearResidual_recs : (s.clearResidual).recs = s.recs := rfl
@[simp] theorem State.clearResidual_answers : (s.clearResidual).answers = s.answers := rfl

@[simp] theorem State.loadSession_AEN : (s.loadSession).AEN = s.AEN := rfl
@[simp] theorem State.loadSession_DEN : (s.loadSession).DEN = s.DEN := rfl
@[simp] theorem State.loadSession_REN : (s.loadSession).REN = s.REN := rfl
@[simp] theorem State.loadSession_RRANGE : (s.loadSession).RRANGE = s.RRANGE := rfl
@[simp] theorem State.loadSession_CEN : (s.loadSession).CEN = s.CEN := rfl
@[simp] theorem State.loadSession_SRATE : (s.loadSession).SRATE = s.SRATE := rfl
@[simp] theorem State.loadSession_DEC : (s.loadSession).DEC = s.DEC := rfl
@[simp] theorem State.loadSession_FILT : (s.loadSession).FILT = s.FILT := rfl
@[simp] theorem State.loadSession_PSC : (s.loadSession).PSC = s.PSC := rfl
@[simp] theorem State.loadSession_SCAN : (s.loadSession).SCAN = s.SCAN := rfl
@[simp] theorem State.loadSession_SL : (s.loadSession).SL = fillSlots s.scanList := rfl
@[simp] theorem State.loadSession_SL_LEN : (s.loadSession).SL_LEN = BitVec.ofNat 4 s.scanList.length := rfl
@[simp] theorem State.loadSession_SNAP_RANGE : (s.loadSession).SNAP_RANGE = s.RRANGE := rfl
@[simp] theorem State.loadSession_SNAP_W : (s.loadSession).SNAP_W = BitVec.ofNat 11 (packetWords s.PSC) := rfl
@[simp] theorem State.loadSession_SNAP_TMO :
    (s.loadSession).SNAP_TMO = BitVec.ofNat 32 (decodeTimeoutMs s.SRATE.toNat (packetWords s.PSC) s.NINPUTS) := rfl
@[simp] theorem State.loadSession_ENG : (s.loadSession).ENG = s.ENG := rfl
@[simp] theorem State.loadSession_CUR : (s.loadSession).CUR = 0 := rfl
@[simp] theorem State.loadSession_ACC : (s.loadSession).ACC = Acc.zero := rfl
@[simp] theorem State.loadSession_RES_V : (s.loadSession).RES_V = false := rfl
@[simp] theorem State.loadSession_RES_B : (s.loadSession).RES_B = 0 := rfl
@[simp] theorem State.loadSession_BUF : (s.loadSession).BUF = [] := rfl
@[simp] theorem State.loadSession_BLEN : (s.loadSession).BLEN = 0 := rfl
@[simp] theorem State.loadSession_POS : (s.loadSession).POS = 0 := rfl
@[simp] theorem State.loadSession_PKT : (s.loadSession).PKT = 0 := rfl
@[simp] theorem State.loadSession_OUT : (s.loadSession).OUT = s.OUT := rfl
@[simp] theorem State.loadSession_DEVQ : (s.loadSession).DEVQ = s.DEVQ := rfl
@[simp] theorem State.loadSession_held : (s.loadSession).held = s.held := rfl
@[simp] theorem State.loadSession_params : (s.loadSession).params = s.params := rfl
@[simp] theorem State.loadSession_turns : (s.loadSession).turns = s.turns := rfl
@[simp] theorem State.loadSession_cmds : (s.loadSession).cmds = s.cmds := rfl
@[simp] theorem State.loadSession_rsps : (s.loadSession).rsps = s.rsps := rfl
@[simp] theorem State.loadSession_reads : (s.loadSession).reads = s.reads := rfl
@[simp] theorem State.loadSession_recs : (s.loadSession).recs = s.recs := rfl
@[simp] theorem State.loadSession_answers : (s.loadSession).answers = s.answers := rfl

@[simp] theorem State.respond_NINPUTS (st : Status) (data : Field56) : (s.respond st data).NINPUTS = s.NINPUTS := rfl
@[simp] theorem State.respond_ENDO (st : Status) (data : Field56) : (s.respond st data).ENDO = s.ENDO := rfl
@[simp] theorem State.respond_slots (st : Status) (data : Field56) : (s.respond st data).slots = s.slots := rfl
@[simp] theorem State.respond_analogOn (st : Status) (data : Field56) : (s.respond st data).analogOn = s.analogOn := rfl
@[simp] theorem State.respond_scanList (st : Status) (data : Field56) : (s.respond st data).scanList = s.scanList := rfl
@[simp] theorem State.respond_record (st : Status) (data : Field56) : (s.respond st data).record = s.record := rfl

@[simp] theorem State.raise_NINPUTS (st : Status) : (s.raise st).NINPUTS = s.NINPUTS := rfl
@[simp] theorem State.raise_ENDO (st : Status) : (s.raise st).ENDO = s.ENDO := rfl
@[simp] theorem State.raise_slots (st : Status) : (s.raise st).slots = s.slots := rfl
@[simp] theorem State.raise_analogOn (st : Status) : (s.raise st).analogOn = s.analogOn := rfl
@[simp] theorem State.raise_scanList (st : Status) : (s.raise st).scanList = s.scanList := rfl
@[simp] theorem State.raise_record (st : Status) : (s.raise st).record = s.record := rfl

@[simp] theorem State.emit_NINPUTS (ds : List DevCmd) : (s.emit ds).NINPUTS = s.NINPUTS := rfl
@[simp] theorem State.emit_ENDO (ds : List DevCmd) : (s.emit ds).ENDO = s.ENDO := rfl
@[simp] theorem State.emit_slots (ds : List DevCmd) : (s.emit ds).slots = s.slots := rfl
@[simp] theorem State.emit_analogOn (ds : List DevCmd) : (s.emit ds).analogOn = s.analogOn := rfl
@[simp] theorem State.emit_scanList (ds : List DevCmd) : (s.emit ds).scanList = s.scanList := rfl
@[simp] theorem State.emit_record (ds : List DevCmd) : (s.emit ds).record = s.record := rfl

end

end Sys2Proof.Machine
end

