-- ==== Sys2Proof/Laws/Session.lean ====
section
/-! SUPPORT. One lemma per field for the compound updates of the state: START's session (R162), a record's emission
(R200) and the forced stop (R203). -/

namespace Sys2Proof.Machine

section
variable (s : State)

@[simp] theorem State.beginSession_AEN : (s.beginSession).AEN = s.AEN := by simp [State.beginSession]
@[simp] theorem State.beginSession_DEN : (s.beginSession).DEN = s.DEN := by simp [State.beginSession]
@[simp] theorem State.beginSession_REN : (s.beginSession).REN = s.REN := by simp [State.beginSession]
@[simp] theorem State.beginSession_RRANGE : (s.beginSession).RRANGE = s.RRANGE := by simp [State.beginSession]
@[simp] theorem State.beginSession_CEN : (s.beginSession).CEN = s.CEN := by simp [State.beginSession]
@[simp] theorem State.beginSession_SRATE : (s.beginSession).SRATE = s.SRATE := by simp [State.beginSession]
@[simp] theorem State.beginSession_DEC : (s.beginSession).DEC = s.DEC := by simp [State.beginSession]
@[simp] theorem State.beginSession_FILT : (s.beginSession).FILT = s.FILT := by simp [State.beginSession]
@[simp] theorem State.beginSession_PSC : (s.beginSession).PSC = s.PSC := by simp [State.beginSession]
@[simp] theorem State.beginSession_SCAN : (s.beginSession).SCAN = .scanning := by simp [State.beginSession]
@[simp] theorem State.beginSession_SL :
    (s.beginSession).SL = fillSlots s.scanList := by simp [State.beginSession]
@[simp] theorem State.beginSession_SL_LEN :
    (s.beginSession).SL_LEN = BitVec.ofNat 4 s.scanList.length := by simp [State.beginSession]
@[simp] theorem State.beginSession_SNAP_RANGE :
    (s.beginSession).SNAP_RANGE = s.RRANGE := by simp [State.beginSession]
@[simp] theorem State.beginSession_SNAP_W :
    (s.beginSession).SNAP_W = BitVec.ofNat 11 (packetWords s.PSC) := by simp [State.beginSession]
@[simp] theorem State.beginSession_SNAP_TMO :
    (s.beginSession).SNAP_TMO = BitVec.ofNat 32 (decodeTimeoutMs s.SRATE.toNat (packetWords s.PSC) s.NINPUTS) := by simp [State.beginSession]
@[simp] theorem State.beginSession_ENG : (s.beginSession).ENG = .top := by simp [State.beginSession]
@[simp] theorem State.beginSession_CUR : (s.beginSession).CUR = 0 := by simp [State.beginSession]
@[simp] theorem State.beginSession_ACC : (s.beginSession).ACC = Acc.zero := by simp [State.beginSession]
@[simp] theorem State.beginSession_RES_V : (s.beginSession).RES_V = false := by simp [State.beginSession]
@[simp] theorem State.beginSession_RES_B : (s.beginSession).RES_B = 0 := by simp [State.beginSession]
@[simp] theorem State.beginSession_BUF : (s.beginSession).BUF = [] := by simp [State.beginSession]
@[simp] theorem State.beginSession_BLEN : (s.beginSession).BLEN = 0 := by simp [State.beginSession]
@[simp] theorem State.beginSession_POS : (s.beginSession).POS = 0 := by simp [State.beginSession]
@[simp] theorem State.beginSession_PKT : (s.beginSession).PKT = 0 := by simp [State.beginSession]
@[simp] theorem State.beginSession_OUT : (s.beginSession).OUT = s.OUT := by simp [State.beginSession]
@[simp] theorem State.beginSession_DEVQ :
    (s.beginSession).DEVQ = s.DEVQ ++ s.loadSession.configSequence := by simp [State.beginSession]
@[simp] theorem State.beginSession_held : (s.beginSession).held = false := by simp [State.beginSession]
@[simp] theorem State.beginSession_params : (s.beginSession).params = s.params := by simp [State.beginSession]
@[simp] theorem State.beginSession_turns : (s.beginSession).turns = s.turns := by simp [State.beginSession]
@[simp] theorem State.beginSession_cmds : (s.beginSession).cmds = s.cmds := by simp [State.beginSession]
@[simp] theorem State.beginSession_rsps :
    (s.beginSession).rsps = s.rsps ++ [rspWord .ok 0] := by simp [State.beginSession]
@[simp] theorem State.beginSession_reads : (s.beginSession).reads = s.reads := by simp [State.beginSession]
@[simp] theorem State.beginSession_recs : (s.beginSession).recs = s.recs := by simp [State.beginSession]
@[simp] theorem State.beginSession_answers :
    (s.beginSession).answers = s.answers := by simp [State.beginSession]

@[simp] theorem State.emitRecord_AEN : (s.emitRecord).AEN = s.AEN := by simp [State.emitRecord]
@[simp] theorem State.emitRecord_DEN : (s.emitRecord).DEN = s.DEN := by simp [State.emitRecord]
@[simp] theorem State.emitRecord_REN : (s.emitRecord).REN = s.REN := by simp [State.emitRecord]
@[simp] theorem State.emitRecord_RRANGE : (s.emitRecord).RRANGE = s.RRANGE := by simp [State.emitRecord]
@[simp] theorem State.emitRecord_CEN : (s.emitRecord).CEN = s.CEN := by simp [State.emitRecord]
@[simp] theorem State.emitRecord_SRATE : (s.emitRecord).SRATE = s.SRATE := by simp [State.emitRecord]
@[simp] theorem State.emitRecord_DEC : (s.emitRecord).DEC = s.DEC := by simp [State.emitRecord]
@[simp] theorem State.emitRecord_FILT : (s.emitRecord).FILT = s.FILT := by simp [State.emitRecord]
@[simp] theorem State.emitRecord_PSC : (s.emitRecord).PSC = s.PSC := by simp [State.emitRecord]
@[simp] theorem State.emitRecord_SCAN : (s.emitRecord).SCAN = s.SCAN := by simp [State.emitRecord]
@[simp] theorem State.emitRecord_SL : (s.emitRecord).SL = s.SL := by simp [State.emitRecord]
@[simp] theorem State.emitRecord_SL_LEN : (s.emitRecord).SL_LEN = s.SL_LEN := by simp [State.emitRecord]
@[simp] theorem State.emitRecord_SNAP_RANGE :
    (s.emitRecord).SNAP_RANGE = s.SNAP_RANGE := by simp [State.emitRecord]
@[simp] theorem State.emitRecord_SNAP_W : (s.emitRecord).SNAP_W = s.SNAP_W := by simp [State.emitRecord]
@[simp] theorem State.emitRecord_SNAP_TMO : (s.emitRecord).SNAP_TMO = s.SNAP_TMO := by simp [State.emitRecord]
@[simp] theorem State.emitRecord_ENG : (s.emitRecord).ENG = .waitConsumer := by simp [State.emitRecord]
@[simp] theorem State.emitRecord_CUR : (s.emitRecord).CUR = s.CUR := by simp [State.emitRecord]
@[simp] theorem State.emitRecord_ACC : (s.emitRecord).ACC = s.ACC := by simp [State.emitRecord]
@[simp] theorem State.emitRecord_RES_V : (s.emitRecord).RES_V = s.RES_V := by simp [State.emitRecord]
@[simp] theorem State.emitRecord_RES_B : (s.emitRecord).RES_B = s.RES_B := by simp [State.emitRecord]
@[simp] theorem State.emitRecord_BUF : (s.emitRecord).BUF = s.BUF := by simp [State.emitRecord]
@[simp] theorem State.emitRecord_BLEN : (s.emitRecord).BLEN = s.BLEN := by simp [State.emitRecord]
@[simp] theorem State.emitRecord_POS : (s.emitRecord).POS = s.POS := by simp [State.emitRecord]
@[simp] theorem State.emitRecord_PKT : (s.emitRecord).PKT = s.PKT + 1 := by simp [State.emitRecord]
@[simp] theorem State.emitRecord_OUT : (s.emitRecord).OUT = s.record.pack := by simp [State.emitRecord]
@[simp] theorem State.emitRecord_DEVQ : (s.emitRecord).DEVQ = s.DEVQ := by simp [State.emitRecord]
@[simp] theorem State.emitRecord_held : (s.emitRecord).held = s.held := by simp [State.emitRecord]
@[simp] theorem State.emitRecord_params : (s.emitRecord).params = s.params := by simp [State.emitRecord]
@[simp] theorem State.emitRecord_turns : (s.emitRecord).turns = s.turns := by simp [State.emitRecord]
@[simp] theorem State.emitRecord_cmds : (s.emitRecord).cmds = s.cmds := by simp [State.emitRecord]
@[simp] theorem State.emitRecord_rsps : (s.emitRecord).rsps = s.rsps := by simp [State.emitRecord]
@[simp] theorem State.emitRecord_reads : (s.emitRecord).reads = s.reads := by simp [State.emitRecord]
@[simp] theorem State.emitRecord_recs :
    (s.emitRecord).recs = s.recs ++ [s.record.pack] := by simp [State.emitRecord]
@[simp] theorem State.emitRecord_answers : (s.emitRecord).answers = s.answers := by simp [State.emitRecord]

@[simp] theorem State.forcedStop_AEN : (s.forcedStop).AEN = s.AEN := by simp [State.forcedStop]
@[simp] theorem State.forcedStop_DEN : (s.forcedStop).DEN = s.DEN := by simp [State.forcedStop]
@[simp] theorem State.forcedStop_REN : (s.forcedStop).REN = s.REN := by simp [State.forcedStop]
@[simp] theorem State.forcedStop_RRANGE : (s.forcedStop).RRANGE = s.RRANGE := by simp [State.forcedStop]
@[simp] theorem State.forcedStop_CEN : (s.forcedStop).CEN = s.CEN := by simp [State.forcedStop]
@[simp] theorem State.forcedStop_SRATE : (s.forcedStop).SRATE = s.SRATE := by simp [State.forcedStop]
@[simp] theorem State.forcedStop_DEC : (s.forcedStop).DEC = s.DEC := by simp [State.forcedStop]
@[simp] theorem State.forcedStop_FILT : (s.forcedStop).FILT = s.FILT := by simp [State.forcedStop]
@[simp] theorem State.forcedStop_PSC : (s.forcedStop).PSC = s.PSC := by simp [State.forcedStop]
@[simp] theorem State.forcedStop_SCAN : (s.forcedStop).SCAN = .idle := by simp [State.forcedStop]
@[simp] theorem State.forcedStop_SL : (s.forcedStop).SL = s.SL := by simp [State.forcedStop]
@[simp] theorem State.forcedStop_SL_LEN : (s.forcedStop).SL_LEN = s.SL_LEN := by simp [State.forcedStop]
@[simp] theorem State.forcedStop_SNAP_RANGE :
    (s.forcedStop).SNAP_RANGE = s.SNAP_RANGE := by simp [State.forcedStop]
@[simp] theorem State.forcedStop_SNAP_W : (s.forcedStop).SNAP_W = s.SNAP_W := by simp [State.forcedStop]
@[simp] theorem State.forcedStop_SNAP_TMO : (s.forcedStop).SNAP_TMO = s.SNAP_TMO := by simp [State.forcedStop]
@[simp] theorem State.forcedStop_ENG : (s.forcedStop).ENG = .stopped := by simp [State.forcedStop]
@[simp] theorem State.forcedStop_CUR : (s.forcedStop).CUR = s.CUR := by simp [State.forcedStop]
@[simp] theorem State.forcedStop_ACC : (s.forcedStop).ACC = s.ACC := by simp [State.forcedStop]
@[simp] theorem State.forcedStop_RES_V : (s.forcedStop).RES_V = false := by simp [State.forcedStop]
@[simp] theorem State.forcedStop_RES_B : (s.forcedStop).RES_B = 0 := by simp [State.forcedStop]
@[simp] theorem State.forcedStop_BUF : (s.forcedStop).BUF = [] := by simp [State.forcedStop]
@[simp] theorem State.forcedStop_BLEN : (s.forcedStop).BLEN = 0 := by simp [State.forcedStop]
@[simp] theorem State.forcedStop_POS : (s.forcedStop).POS = 0 := by simp [State.forcedStop]
@[simp] theorem State.forcedStop_PKT : (s.forcedStop).PKT = s.PKT := by simp [State.forcedStop]
@[simp] theorem State.forcedStop_OUT : (s.forcedStop).OUT = s.OUT := by simp [State.forcedStop]
@[simp] theorem State.forcedStop_DEVQ : (s.forcedStop).DEVQ = s.DEVQ ++ [.stop] := by simp [State.forcedStop]
@[simp] theorem State.forcedStop_held : (s.forcedStop).held = s.held := by simp [State.forcedStop]
@[simp] theorem State.forcedStop_params : (s.forcedStop).params = s.params := by simp [State.forcedStop]
@[simp] theorem State.forcedStop_turns : (s.forcedStop).turns = s.turns := by simp [State.forcedStop]
@[simp] theorem State.forcedStop_cmds : (s.forcedStop).cmds = s.cmds := by simp [State.forcedStop]
@[simp] theorem State.forcedStop_rsps : (s.forcedStop).rsps = s.rsps := by simp [State.forcedStop]
@[simp] theorem State.forcedStop_reads : (s.forcedStop).reads = s.reads := by simp [State.forcedStop]
@[simp] theorem State.forcedStop_recs : (s.forcedStop).recs = s.recs := by simp [State.forcedStop]
@[simp] theorem State.forcedStop_answers : (s.forcedStop).answers = s.answers := by simp [State.forcedStop]

@[simp] theorem State.emitRecord_slots : (s.emitRecord).slots = s.slots := by simp [State.slots]
@[simp] theorem State.emitRecord_NINPUTS : (s.emitRecord).NINPUTS = s.NINPUTS := by
  simp [State.NINPUTS, State.analogOn]
@[simp] theorem State.forcedStop_slots : (s.forcedStop).slots = s.slots := by simp [State.slots]
@[simp] theorem State.forcedStop_NINPUTS : (s.forcedStop).NINPUTS = s.NINPUTS := by
  simp [State.NINPUTS, State.analogOn]
@[simp] theorem State.beginSession_NINPUTS : (s.beginSession).NINPUTS = s.NINPUTS := by
  simp [State.NINPUTS, State.analogOn]

end

end Sys2Proof.Machine
end

