-- ==== Sys2Proof/Laws/ScanList.lean ====
section
/-! SUPPORT. The scan list that START builds (R160): its length, its order, its place in the scan-list file. -/

namespace Sys2Proof.Machine

/-- R26: at most 11 inputs are enabled. -/
theorem State.NINPUTS_le (s : State) : s.NINPUTS ≤ 11 := by
  have h : s.analogOn.length ≤ 8 := List.length_filter_le ..
  have hd : bit (s.DEN != 0) ≤ 1 := by unfold bit; split <;> omega
  have hr : bit s.REN ≤ 1 := by unfold bit; split <;> omega
  have hc : bit s.CEN ≤ 1 := by unfold bit; split <;> omega
  unfold State.NINPUTS
  omega

/-- R27: the mask is the sentinel exactly when no line is enabled. -/
theorem State.ENDO_eq_none (s : State) : s.ENDO = Config.ENDO_NONE ↔ s.DEN = 0 := by
  unfold State.ENDO Config.ENDO_NONE
  generalize s.DEN = d
  revert d
  decide

/-- R33, R160: the built list has NINPUTS entries. -/
theorem State.scanList_length (s : State) : s.scanList.length = s.NINPUTS := by
  unfold State.scanList State.NINPUTS
  simp only [ne_eq, State.ENDO_eq_none, List.length_append, List.length_map]
  congr 1
  · congr 1
    · congr 1
      by_cases h : s.DEN = 0#7 <;> simp [h, bit]
    · cases s.REN <;> simp [bit]
  · cases s.CEN <;> simp [bit]

/-- R86: the tag of an analog entry is its channel. -/
theorem Entry.analog_tag (c : Fin 8) : (Entry.analog c).tag.toNat = c.val := by
  revert c
  decide

/-- R160: after START the slots in use are the built list. -/
theorem State.beginSession_slots (s : State) : s.beginSession.slots = s.scanList := by
  have hb := s.NINPUTS_le
  have hl := s.scanList_length
  show (fillSlots s.scanList).toList.take (BitVec.ofNat 4 s.scanList.length).toNat = _
  rw [BitVec.toNat_ofNat, Nat.mod_eq_of_lt (by omega)]
  simp only [fillSlots, Vector.toList]
  rw [List.take_take, List.take_append]
  simp
  omega

/-- R160: an unused slot is cleared. -/
theorem fillSlots_unused (l : List Entry) (i : Fin 11) (h : l.length ≤ i.val) : (fillSlots l).get i = .analog 0 := by
  show (fillSlots l)[i.val] = _
  simp only [fillSlots, Vector.getElem_mk, List.getElem_toArray]
  rw [List.getElem_take, List.getElem_append_right h]
  exact List.getElem_replicate ..

end Sys2Proof.Machine
end

