-- ==== Sys2Proof/Laws/Commands.lean ====
section
/-! SUPPORT. Everything a command can do, said once: `exec_cases` lists the ways `exec` answers a next state. Later
proofs cite it instead of unfolding the meanings. -/

namespace Sys2Proof.Machine

/-- R110: with SCAN = Scanning the gate refuses. -/
theorem gated_scanning {s : State} (h : s.SCAN = .scanning) (body : Host.Outcome State Fault Refusal) :
    gated s body = .next (s.raise .cannotConfigureWhileScanning) := if_pos h

/-- R110: with SCAN = Idle the gate lets the command through. -/
theorem gated_idle {s : State} (h : s.SCAN = .idle) (body : Host.Outcome State Fault Refusal) :
    gated s body = body := if_neg (by simp [h])

/-- R32: SCAN is Idle when it is not Scanning. -/
theorem idle_of_not_scanning {x : ScanState} (h : ¬ x = .scanning) : x = .idle := by
  cases x with
  | idle => rfl
  | scanning => exact absurd rfl h

/-- R32: SCAN is Scanning when it is not Idle. -/
theorem scanning_of_not_idle {x : ScanState} (h : ¬ x = .idle) : x = .scanning := by
  cases x with
  | idle => exact absurd rfl h
  | scanning => rfl

/-- u is s with configuration registers written to legal values, SCAN being Idle (R21–R25, R28–R31). -/
structure ConfigWrite (s u : State) : Prop where
  idle : s.SCAN = .idle
  frame : u = { s with
    AEN := u.AEN, DEN := u.DEN, REN := u.REN, RRANGE := u.RRANGE, CEN := u.CEN, SRATE := u.SRATE, DEC := u.DEC
    FILT := u.FILT, PSC := u.PSC }
  rrange : u.RRANGE = s.RRANGE ∨ u.RRANGE.toNat ≤ 11
  srate : u.SRATE = s.SRATE ∨ (Config.SRATE_MIN ≤ u.SRATE.toNat ∧ u.SRATE.toNat ≤ Config.SRATE_MAX)
  dec : u.DEC = s.DEC ∨ u.DEC ≠ 0

/-- The ways a command leaves the state t. -/
inductive CommandEffect (i : Instr) (s : State) : State → Prop
  /-- R261: an error answer. -/
  | error (st : Status) (h : st ≠ .ok) : CommandEffect i s (s.raise st)
  /-- R67: an answer that writes nothing. -/
  | answer (d : Field56) : CommandEffect i s (s.respond .ok d)
  /-- R110: a mutator's write. -/
  | config (u : State) (d : Field56) (h : ConfigWrite s u) : CommandEffect i s (u.respond .ok d)
  /-- R164: STOP. -/
  | stop (h : s.SCAN = .scanning) (hi : i = .stop) :
    CommandEffect i s ({ s.emit [.stop] with SCAN := .idle }.respond .ok 0)
  /-- R162: START holds. -/
  | hold (hi : i = .start) (hh : s.held = false) (hs : s.SCAN = .idle) (hn : s.NINPUTS ≠ 0)
    (he : s.ENG ≠ .stopped) (hf : s.ENG ≠ .fatal) : CommandEffect i s { s with held := true }
  /-- R162: a held START waits on. -/
  | wait (hi : i = .start) (hh : s.held = true) (he : s.ENG ≠ .stopped) : CommandEffect i s s
  /-- R162: START begins a session. -/
  | start (hi : i = .start) (he : s.ENG = .stopped) (hc : s.held = true ∨ (s.SCAN = .idle ∧ s.NINPUTS ≠ 0)) :
    CommandEffect i s s.beginSession

/-- A gated body that is an error or a configuration write has the effect of a command. -/
theorem CommandEffect.of_gated {i : Instr} {s t : State} {body : Host.Outcome State Fault Refusal}
    (h : gated s body = .next t) (hb : s.SCAN = .idle → body = .next t → CommandEffect i s t) :
    CommandEffect i s t := by
  by_cases hs : s.SCAN = .scanning
  · rw [gated_scanning hs] at h
    cases h
    exact .error _ (by decide)
  · have hi := idle_of_not_scanning hs
    rw [gated_idle hi] at h
    exact hb hi h

/-- R111, R112. -/
theorem setAnalog_cases {i : Instr} {idx : BitVec 8} {v : Bool} {s t : State} (h : setAnalog idx v s = .next t) :
    CommandEffect i s t := by
  refine .of_gated h fun hi hb => ?_
  split at hb <;> cases hb
  · exact .error _ (by decide)
  · exact .config _ 0 ⟨hi, rfl, .inl rfl, .inl rfl, .inl rfl⟩

/-- R113, R114. -/
theorem setDigital_cases {i : Instr} {idx : BitVec 8} {v : Bool} {s t : State} (h : setDigital idx v s = .next t) :
    CommandEffect i s t := by
  refine .of_gated h fun hi hb => ?_
  split at hb <;> cases hb
  · exact .error _ (by decide)
  · exact .config _ 0 ⟨hi, rfl, .inl rfl, .inl rfl, .inl rfl⟩

/-- R115. -/
theorem execEnr_cases {i : Instr} {rng : BitVec 4} {s t : State} (h : execEnr rng s = .next t) :
    CommandEffect i s t := by
  refine .of_gated h fun hi hb => ?_
  split at hb <;> cases hb
  · exact .error _ (by decide)
  · rename_i hr
    exact .config _ 0 ⟨hi, rfl, .inr (Nat.le_of_not_lt hr), .inl rfl, .inl rfl⟩

/-- R132. -/
theorem execSrate_cases {i : Instr} {hz : BitVec 48} {s t : State} (h : execSrate hz s = .next t) :
    CommandEffect i s t := by
  refine .of_gated h fun hi hb => ?_
  split at hb
  · cases hb
    exact .error _ (by decide)
  · split at hb
    · cases hb
      exact .error _ (by decide)
    · rename_i r _
      split at hb
      · cases hb
        exact .error _ (by decide)
      · split at hb <;> cases hb
        · exact .error _ (by decide)
        · rename_i hmax hmin
          have hr : r % 2 ^ 20 = r := Nat.mod_eq_of_lt (by simp only [Config.SRATE_MAX] at hmax; omega)
          refine .config _ _ ⟨hi, rfl, .inl rfl, .inr ?_, .inl rfl⟩
          rw [BitVec.toNat_ofNat, hr]
          exact ⟨Nat.le_of_not_lt hmin, Nat.le_of_not_lt hmax⟩

/-- R134. -/
theorem execSetdec_cases {i : Instr} {val : BitVec 16} {s t : State} (h : execSetdec val s = .next t) :
    CommandEffect i s t := by
  refine .of_gated h fun hi hb => ?_
  split at hb <;> cases hb
  · exact .error _ (by decide)
  · rename_i hv
    exact .config _ 0 ⟨hi, rfl, .inl rfl, .inl rfl, .inr hv⟩

/-- R116, R117, R118, R135, R136: a gated write of one register that is neither RRANGE, SRATE nor DEC. -/
theorem gatedWrite_cases {i : Instr} {s t u : State} (h : gated s (.next (u.respond .ok 0)) = .next t)
    (hu : s.SCAN = .idle → ConfigWrite s u) : CommandEffect i s t := by
  refine .of_gated h fun hi hb => ?_
  cases hb
  exact .config u 0 (hu hi)

/-- R162. -/
theorem execStart_cases {s t : State} (h : execStart s = .next t) : CommandEffect .start s t := by
  unfold execStart at h
  split at h
  · rename_i hh
    split at h <;> cases h
    · rename_i he
      exact .start rfl he (.inl hh)
    · rename_i he
      exact .wait rfl hh he
  · rename_i hh
    split at h
    · cases h
      exact .error _ (by decide)
    · rename_i hs
      have hi := idle_of_not_scanning hs
      split at h
      · cases h
        exact .error _ (by decide)
      · rename_i hn
        split at h
        · cases h
          exact .error _ (by decide)
        · rename_i hf
          split at h <;> cases h
          · rename_i he
            exact .start rfl he (.inr ⟨hi, hn⟩)
          · rename_i he
            exact .hold rfl (by simpa using hh) hi hn he hf

/-- R164. -/
theorem execStop_cases {s t : State} (h : execStop s = .next t) : CommandEffect .stop s t := by
  unfold execStop at h
  split at h <;> cases h
  · exact .error _ (by decide)
  · rename_i hs
    exact .stop (scanning_of_not_idle hs) rfl

/-- Everything a command can do. -/
theorem exec_cases {i : Instr} {s t : State} (h : exec i s = .next t) : CommandEffect i s t := by
  cases i with
  | ena idx => exact setAnalog_cases h
  | disa idx => exact setAnalog_cases h
  | end_ idx => exact setDigital_cases h
  | disd idx => exact setDigital_cases h
  | enr rng => exact execEnr_cases h
  | disr => exact gatedWrite_cases h fun hi => ⟨hi, rfl, .inl rfl, .inl rfl, .inl rfl⟩
  | enc => exact gatedWrite_cases h fun hi => ⟨hi, rfl, .inl rfl, .inl rfl, .inl rfl⟩
  | disc => exact gatedWrite_cases h fun hi => ⟨hi, rfl, .inl rfl, .inl rfl, .inl rfl⟩
  | cnt => cases h; exact .answer _
  | srate hz => exact execSrate_cases h
  | setdec val => exact execSetdec_cases h
  | setfilt flt => exact gatedWrite_cases h fun hi => ⟨hi, rfl, .inl rfl, .inl rfl, .inl rfl⟩
  | setps code => exact gatedWrite_cases h fun hi => ⟨hi, rfl, .inl rfl, .inl rfl, .inl rfl⟩
  | pktw code => cases h; exact .answer _
  | rpp wc n =>
    simp only [exec, execRpp] at h
    split at h <;> cases h <;> exact .answer _
  | tmo =>
    simp only [exec, execTmo] at h
    split at h <;> cases h
    · exact .error _ (by decide)
    · exact .answer _
  | start => exact execStart_cases h
  | stop => exact execStop_cases h
  | rdsl idx =>
    simp only [exec, execRdsl] at h
    split at h <;> cases h
    · exact .error _ (by decide)
    · exact .answer _
  | rdreg idx =>
    simp only [exec, execRdreg] at h
    split at h <;> cases h
    · exact .error _ (by decide)
    · exact .answer _
  | cvtv cnt => cases h; exact .answer _
  | cvtf cnt rng =>
    simp only [exec, execCvtf] at h
    split at h <;> cases h
    · exact .error _ (by decide)
    · exact .answer _

end Sys2Proof.Machine
end

