-- ==== Sys2Proof/Laws/Encoding.lean ====
section
/-! SUPPORT. The fields of an encoded command word (R80, R82): small lemmas about the opcode and operand fields and about
a field that fills an operand from bit 0. -/

namespace Sys2Proof

/-- The high part of a concatenation (R9: a is the more significant). -/
theorem extract_append_high {m n : Nat} (a : BitVec m) (b : BitVec n) : (a ++ b).extractLsb' n m = a := by
  apply BitVec.eq_of_getLsbD_eq
  intro k hk
  simp [BitVec.getLsbD_append, hk]

/-- The low part of a concatenation. -/
theorem extract_append_low {m n : Nat} (a : BitVec m) (b : BitVec n) : (a ++ b).extractLsb' 0 n = b := by
  apply BitVec.eq_of_getLsbD_eq
  intro k hk
  simp [BitVec.getLsbD_append, hk]

/-- A word is its high part and its low part. -/
theorem append_extract {m n : Nat} (w : BitVec (m + n)) : w.extractLsb' n m ++ w.extractLsb' 0 n = w := by
  apply BitVec.eq_of_getLsbD_eq
  intro k hk
  rw [BitVec.getLsbD_append]
  by_cases h : k < n
  · simp [h]
  · have hm : k - n < m := by omega
    have hk' : n + (k - n) = k := by omega
    simp [h, hm, hk']

/-- A mask of the bits above w keeps the high part and clears a low part that has none there. -/
theorem append_and_mask {m n w : Nat} (a : BitVec m) (b : BitVec n) (hw : w ≤ n) (hb : b.toNat < 2 ^ w) :
    (a ++ b) &&& ~~~(BitVec.ofNat (m + n) (2 ^ w - 1)) = a ++ (0 : BitVec n) := by
  apply BitVec.eq_of_getLsbD_eq
  intro k hk
  rw [BitVec.getLsbD_and, BitVec.getLsbD_not, BitVec.getLsbD_append, BitVec.getLsbD_append, BitVec.getLsbD_ofNat,
    Nat.testBit_two_pow_sub_one]
  by_cases hkw : k < w
  · have hn : k < n := by omega
    simp [hkw, hn, hk]
  · by_cases hn : k < n
    · have hz : b.getLsbD k = false := by
        rw [BitVec.getLsbD]
        exact Nat.testBit_lt_two_pow (Nat.lt_of_lt_of_le hb (Nat.pow_le_pow_right (by decide) (by omega)))
      rw [if_pos hn, if_pos hn, hz]
      simp
    · simp [hkw, hn, hk]

/-- R80: the opcode field of an encoded command. -/
@[simp] theorem cmdOpcode_encode (i : Instr) : cmdOpcode (encode i) = opcode i :=
  extract_append_high (opcode i) (operand i)

/-- R80: the operand field of an encoded command. -/
@[simp] theorem cmdOperand_encode (i : Instr) : cmdOperand (encode i) = operand i :=
  extract_append_low (opcode i) (operand i)

/-- R80: a word is its opcode and its operand. -/
theorem opcode_append_operand (w : CmdWord) : cmdOpcode w ++ cmdOperand w = w :=
  append_extract (m := 8) (n := 56) w

/-- R82: the reserved bits of an operand that holds one field are 0. -/
theorem field_reserved {w : Nat} (x : BitVec w) (h : w ≤ 56) : x.setWidth 56 >>> w = 0#56 := by
  apply BitVec.eq_of_toNat_eq
  have hx : x.toNat < 2 ^ 56 := Nat.lt_of_lt_of_le x.isLt (Nat.pow_le_pow_right (by decide) h)
  rw [BitVec.toNat_ushiftRight, BitVec.toNat_setWidth, Nat.mod_eq_of_lt hx, Nat.shiftRight_eq_div_pow,
    Nat.div_eq_of_lt x.isLt]
  rfl

/-- R82: a field placed from bit 0 is read back. -/
theorem field_read {w : Nat} (x : BitVec w) (h : w ≤ 56) : (x.setWidth 56).extractLsb' 0 w = x := by
  apply BitVec.eq_of_toNat_eq
  have hx : x.toNat < 2 ^ 56 := Nat.lt_of_lt_of_le x.isLt (Nat.pow_le_pow_right (by decide) h)
  rw [BitVec.extractLsb'_toNat, BitVec.toNat_setWidth, Nat.mod_eq_of_lt hx]
  simp [Nat.mod_eq_of_lt x.isLt]

/-- R83: an operand whose reserved bits are 0 is its field. -/
theorem field_of_reserved {w : Nat} (x : Field56) (hr : x >>> w = 0#56) : (x.extractLsb' 0 w).setWidth 56 = x := by
  have h0 := congrArg BitVec.toNat hr
  rw [BitVec.toNat_ushiftRight, Nat.shiftRight_eq_div_pow, BitVec.toNat_ofNat, Nat.zero_mod,
    Nat.div_eq_zero_iff] at h0
  have hlt : x.toNat < 2 ^ w := h0.resolve_left (Nat.two_pow_pos w).ne'
  apply BitVec.eq_of_toNat_eq
  rw [BitVec.toNat_setWidth, BitVec.extractLsb'_toNat, Nat.shiftRight_zero, Nat.mod_eq_of_lt hlt,
    Nat.mod_eq_of_lt x.isLt]

/-- R30: a filter code is read back. -/
@[simp] theorem FilterMode.code_ofCode (c : BitVec 2) : (FilterMode.ofCode c).code = c := by
  revert c; decide

/-- R30: a filter mode is read back. -/
@[simp] theorem FilterMode.ofCode_code (m : FilterMode) : FilterMode.ofCode m.code = m := by
  cases m <;> decide

end Sys2Proof
end

