-- ==== Sys2Proof/Laws/Turns.lean ====
section
/-! SUPPORT. Everything a step can do, said once: `step_cases` lists the ways a turn of an agent leaves the state. -/

namespace Sys2Proof.Machine

/-- The ways a turn `tn`, taken in state s (the turn itself already removed), leaves the state t. -/
inductive TurnEffect (tn : Turn) (s : State) : State → Prop
  /-- The agent has no step enabled, or the Host has no command. -/
  | pass (h : tn ≠ .reset) : TurnEffect tn s s
  /-- R290. -/
  | reset (h : tn = .reset) :
    TurnEffect tn s { State.reset with params := s.params, turns := s.turns, cmds := s.cmds }
  /-- R83: an illegal word. -/
  | illegal (h : tn = .host) (hh : s.held = false) (w : CmdWord) (ws : List CmdWord) (hc : s.cmds = w :: ws) :
    TurnEffect tn s ({ s with cmds := ws }.raise .illegalCommand)
  /-- R66: a command. -/
  | command (h : tn = .host) (hh : s.held = false) (w : CmdWord) (ws : List CmdWord) (hc : s.cmds = w :: ws)
    (i : Instr) (hd : decode w = .ok i) (t : State) (ht : CommandEffect i { s with cmds := ws } t) : TurnEffect tn s t
  /-- R162: the held START begins its session. -/
  | heldStart (h : tn = .host) (hh : s.held = true) (he : s.ENG = .stopped) : TurnEffect tn s s.beginSession
  /-- R191: the loop exits. -/
  | exitLoop (h : tn = .engine) (he : s.ENG = .top) (hs : s.SCAN = .idle) : TurnEffect tn s { s with ENG := .stopped }
  /-- R191: a read is issued. -/
  | read (h : tn = .engine) (he : s.ENG = .top) (hs : s.SCAN = .scanning) :
    TurnEffect tn s { s.issueRead with ENG := .readPending }
  /-- R193: an empty chunk. -/
  | emptyChunk (h : tn = .transport []) (he : s.ENG = .readPending) : TurnEffect tn s { s with ENG := .top }
  /-- R194: a chunk after a carried byte. -/
  | carriedChunk (b : List Byte) (h : tn = .transport b) (he : s.ENG = .readPending)
    (hl : b.length ≤ 2 * s.SNAP_W.toNat) (hb : b ≠ []) (hp : s.params.oddByte = .carry) (hv : s.RES_V = true) :
    TurnEffect tn s { (s.loadBuffer (s.RES_B :: b)).clearResidual with ENG := .walk }
  /-- R194: a chunk by itself. -/
  | chunk (b : List Byte) (h : tn = .transport b) (he : s.ENG = .readPending)
    (hl : b.length ≤ 2 * s.SNAP_W.toNat) (hb : b ≠ []) (hp : ¬ (s.params.oddByte = .carry ∧ s.RES_V = true)) :
    TurnEffect tn s { s.loadBuffer b with ENG := .walk }
  /-- R195. -/
  | word (h : tn = .engine) (he : s.ENG = .walk) (hp : s.POS.toNat + 2 ≤ s.BLEN.toNat) (b0 b1 : Byte) (e : Entry)
    (h0 : s.BUF[s.POS.toNat]? = some b0) (h1 : s.BUF[s.POS.toNat + 1]? = some b1)
    (hs : s.SL[s.CUR.toNat]? = some e) : TurnEffect tn s (s.takeWord e b0 b1)
  /-- R201: a lone byte is kept. -/
  | keepByte (h : tn = .engine) (he : s.ENG = .walk) (hp : s.BLEN.toNat = s.POS.toNat + 1)
    (hc : s.params.oddByte = .carry) (b : Byte) (hb : s.BUF[s.POS.toNat]? = some b) :
    TurnEffect tn s { { s with RES_B := b, RES_V := true }.dropBuffer with ENG := .top }
  /-- R201: the buffer ends. -/
  | endBuffer (h : tn = .engine) (he : s.ENG = .walk) (hp : s.BLEN.toNat < s.POS.toNat + 2)
    (hc : ¬ (s.BLEN.toNat = s.POS.toNat + 1 ∧ s.params.oddByte = .carry)) :
    TurnEffect tn s { s.dropBuffer with ENG := .top }
  /-- R202. -/
  | goOn (h : tn = .consumer true) (he : s.ENG = .waitConsumer) :
    TurnEffect tn s { s.answered true with ENG := .walk }
  /-- R203. -/
  | forcedStop (h : tn = .consumer false) (he : s.ENG = .waitConsumer) (hs : s.SCAN = .scanning) :
    TurnEffect tn s (s.answered false).forcedStop
  /-- R204. -/
  | fatal (h : tn = .consumer false) (he : s.ENG = .waitConsumer) (hs : s.SCAN = .idle) :
    TurnEffect tn s { s.answered false with ENG := .fatal }

/-- The Host's turn. -/
theorem hostTurn_cases {s t : State} (h : hostTurn s = .next t) : TurnEffect .host s t := by
  unfold hostTurn at h
  split at h
  · rename_i hh
    simp only [exec, execStart, hh, if_true] at h
    split at h <;> cases h
    · rename_i he
      exact .heldStart rfl hh he
    · exact .pass (by decide)
  · rename_i hh
    have hh' : s.held = false := by simpa using hh
    split at h
    · cases h
      exact .pass (by decide)
    · rename_i w ws hc
      unfold runWord at h
      split at h
      · rename_i i hd
        exact .command rfl hh' w ws hc i hd t (exec_cases h)
      · cases h
        exact .illegal rfl hh' w ws hc

/-- The Engine's turn. -/
theorem engineTurn_cases {s t : State} (h : engineTurn s = .next t) : TurnEffect .engine s t := by
  unfold engineTurn at h
  split at h
  · rename_i he
    unfold loopTop at h
    split at h <;> cases h
    · rename_i hs
      exact .exitLoop rfl he hs
    · rename_i hs
      exact .read rfl he (scanning_of_not_idle hs)
  · rename_i he
    split at h
    · rename_i hp
      unfold endOfBuffer at h
      split at h
      · rename_i hc
        split at h <;> cases h
        rename_i b hb
        exact .keepByte rfl he hc.1 hc.2 b hb
      · rename_i hc
        cases h
        exact .endBuffer rfl he hp hc
    · rename_i hp
      unfold wordStep at h
      split at h
      · rename_i b0 b1 h0 h1
        split at h <;> cases h
        rename_i e hs
        exact .word rfl he (Nat.le_of_not_lt hp) b0 b1 e h0 h1 hs
      · cases h
  all_goals
    cases h
    exact .pass (by decide)

/-- The Transport's turn. -/
theorem transportTurn_cases {b : List Byte} {s t : State} (h : transportTurn b s = .next t) :
    TurnEffect (.transport b) s t := by
  unfold transportTurn at h
  split at h
  · rename_i hc
    unfold chunkArrival at h
    split at h
    · rename_i hb
      cases h
      subst hb
      exact .emptyChunk rfl hc.1
    · rename_i hb
      split at h <;> cases h
      · rename_i hv
        exact .carriedChunk b rfl hc.1 hc.2 hb hv.1 hv.2
      · rename_i hv
        exact .chunk b rfl hc.1 hc.2 hb hv
  · cases h
    exact .pass (by simp)

/-- The Consumer's turn. -/
theorem consumerTurn_cases {c : Bool} {s t : State} (h : consumerTurn c s = .next t) :
    TurnEffect (.consumer c) s t := by
  unfold consumerTurn at h
  split at h
  · rename_i he
    unfold consumerAnswer at h
    cases c with
    | true =>
      cases h
      exact .goOn rfl he
    | false =>
      simp only [Bool.false_eq_true, if_false] at h
      split at h <;> cases h
      · rename_i hs
        exact .forcedStop rfl he hs
      · rename_i hs
        exact .fatal rfl he (idle_of_not_scanning hs)
  · cases h
    exact .pass (by simp)

/-- Everything a step can do: with no turn left nothing, else the effect of the first turn. -/
theorem step_cases {s t : State} (h : step s = .next t) :
    (s.turns = [] ∧ t = s) ∨ ∃ tn ts, s.turns = tn :: ts ∧ TurnEffect tn { s with turns := ts } t := by
  unfold step nextTurn at h
  split at h
  · rename_i hn
    cases h
    exact .inl ⟨hn, rfl⟩
  · rename_i tn ts hc
    refine .inr ⟨tn, ts, hc, ?_⟩
    cases tn with
    | host => exact hostTurn_cases h
    | engine => exact engineTurn_cases h
    | transport b => exact transportTurn_cases h
    | consumer c => exact consumerTurn_cases h
    | reset =>
      cases h
      exact .reset rfl

end Sys2Proof.Machine
end

