-- ==== Sys2Proof/Laws/Engine.lean ====
section
/-! SUPPORT. Small lemmas about the Engine's stages (R196–R200): the word of two bytes, the field update, the slot under
the cursor, the cursor's advance; and the responses of commands told apart. -/

namespace Sys2Proof.Machine

/-- R61, R196: the little-endian value of a word. -/
theorem wordOf_toNat (b0 b1 : Byte) : (wordOf b0 b1).toNat = b0.toNat + 256 * b1.toNat := by
  have h0 : b0.toNat < 2 ^ 8 := b0.isLt
  unfold wordOf
  rw [BitVec.toNat_append, ← Nat.shiftLeft_add_eq_or_of_lt h0, Nat.shiftLeft_eq]
  omega

/-- R62: the high byte of a word is the byte received second. -/
@[simp] theorem highByte_wordOf (b0 b1 : Byte) : highByte (wordOf b0 b1) = b1 := by
  exact extract_append_high b1 b0

/-- A vector's written element. -/
theorem vector_get_set {α : Type} {n : Nat} (v : Vector α n) (d c : Fin n) (x : α) :
    (v.set d.val x d.isLt).get c = if d = c then x else v.get c := by
  have hg : ∀ u : Vector α n, u.get c = u[c.val] := fun _ => rfl
  rw [hg, hg, Vector.getElem_set]
  simp only [Fin.ext_iff]

/-- R198: the analog fields after a field update. -/
theorem Acc.update_A (a : Acc) (e : Entry) (w : StreamWord) (c : Fin 8) :
    (a.update e w).A.get c = if e = .analog c then w else a.A.get c := by
  cases e with
  | analog d =>
    simp only [Acc.update, Entry.analog.injEq]
    exact vector_get_set a.A d c w
  | digitals => simp [Acc.update]
  | rate => simp [Acc.update]
  | count => simp [Acc.update]

/-- R198: the digital field after a field update. -/
theorem Acc.update_D (a : Acc) (e : Entry) (w : StreamWord) :
    (a.update e w).D = if e = .digitals then highByte w else a.D := by
  cases e <;> simp [Acc.update]

/-- R198: the rate field after a field update. -/
theorem Acc.update_RT (a : Acc) (e : Entry) (w : StreamWord) :
    (a.update e w).RT = if e = .rate then w else a.RT := by
  cases e <;> simp [Acc.update]

/-- R198: the count field after a field update. -/
theorem Acc.update_CT (a : Acc) (e : Entry) (w : StreamWord) :
    (a.update e w).CT = if e = .count then w else a.CT := by
  cases e <;> simp [Acc.update]

/-- R197: the slot under the cursor. -/
theorem slot_at {s : State} {j : Fin 11} (h : j.val = s.CUR.toNat) : s.SL[s.CUR.toNat]? = some (s.SL.get j) := by
  rw [← h, Vector.getElem?_eq_getElem j.isLt]
  rfl

/-- R199, R200: the cursor reaches SL_LEN: it wraps and a record is emitted. -/
theorem State.advance_wrap {s : State} (h : s.CUR + 1 = s.SL_LEN) : s.advance = { s with CUR := 0 }.emitRecord :=
  if_pos h

/-- R199: the cursor goes on. -/
theorem State.advance_next {s : State} (h : s.CUR + 1 ≠ s.SL_LEN) : s.advance = { s with CUR := s.CUR + 1 } :=
  if_neg h

/-- R81, R260: a response word tells its status and its data. -/
theorem rspWord_inj {st st' : Status} {d d' : Field56} (h : rspWord st d = rspWord st' d') : st = st' ∧ d = d' := by
  have hc : st.code = st'.code := by
    have := congrArg (fun w : RspWord => w.extractLsb' 56 8) h
    exact (extract_append_high st.code d).symm.trans (this.trans (extract_append_high st'.code d'))
  have hd : d = d' := by
    have := congrArg (fun w : RspWord => w.extractLsb' 0 56) h
    exact (extract_append_low st.code d).symm.trans (this.trans (extract_append_low st'.code d'))
  refine ⟨?_, hd⟩
  clear h hd
  cases st <;> cases st' <;> first | rfl | exact absurd hc (by decide)

end Sys2Proof.Machine
end

