-- ==== Sys2Proof/Laws/PerInstr.lean ====
section
/-! SUPPORT. TableRow: the encoding of a command is a word of the opcode-table row of its mnemonic (R84): under the row's
mask it is the row's pattern. -/

namespace Sys2Proof.Laws.TableRow

/-- R84: the mnemonic of a command, as spec/opcode_table.json spells it. -/
def mnemonic : Instr → String
  | .ena _ => "ENA"
  | .disa _ => "DISA"
  | .end_ _ => "END"
  | .disd _ => "DISD"
  | .enr _ => "ENR"
  | .disr => "DISR"
  | .enc => "ENC"
  | .disc => "DISC"
  | .cnt => "CNT"
  | .srate _ => "SRATE"
  | .setdec _ => "SETDEC"
  | .setfilt _ => "SETFILT"
  | .setps _ => "SETPS"
  | .pktw _ => "PKTW"
  | .rpp _ _ => "RPP"
  | .tmo => "TMO"
  | .start => "START"
  | .stop => "STOP"
  | .rdsl _ => "RDSL"
  | .rdreg _ => "RDREG"
  | .cvtv _ => "CVTV"
  | .cvtf _ _ => "CVTF"

/-- The command's word belongs to the row of its mnemonic. -/
def Statement (i : Instr) : Prop :=
  ∃ r ∈ opcodeTable, r.mnemonic = mnemonic i ∧ encode i &&& r.mask = r.pattern

/-- A command's word belongs to a row when the row's mask has the bits above its fields, and its pattern the opcode. -/
theorem of_row {i : Instr} (r : TableRow) (w : Nat) (op : BitVec 8) (hr : r ∈ opcodeTable)
    (hn : r.mnemonic = mnemonic i) (hw : w ≤ 56) (hmask : r.mask = ~~~(BitVec.ofNat 64 (2 ^ w - 1)))
    (hpat : r.pattern = op ++ (0 : Field56)) (ho : opcode i = op) (hf : (operand i).toNat < 2 ^ w) : Statement i := by
  refine ⟨r, hr, hn, ?_⟩
  rw [hmask, hpat, ← ho]
  exact append_and_mask (opcode i) (operand i) hw hf

/-- A field placed from bit 0 stays below its width. -/
theorem field_lt {w : Nat} (x : BitVec w) : (x.setWidth 56).toNat < 2 ^ w := by
  rw [BitVec.toNat_setWidth]
  exact Nat.lt_of_le_of_lt (Nat.mod_le _ _) x.isLt

theorem ena (idx : BitVec 8) : Statement (.ena idx) :=
  of_row { mnemonic := "ENA", format := .X, pattern := 0x0100000000000000, mask := 0xFFFFFFFFFFFFFF00 } 8 0x01
    (by decide) rfl (by decide) (by decide) (by decide) rfl (field_lt _)

theorem disa (idx : BitVec 8) : Statement (.disa idx) :=
  of_row { mnemonic := "DISA", format := .X, pattern := 0x0200000000000000, mask := 0xFFFFFFFFFFFFFF00 } 8 0x02
    (by decide) rfl (by decide) (by decide) (by decide) rfl (field_lt _)

theorem end_ (idx : BitVec 8) : Statement (.end_ idx) :=
  of_row { mnemonic := "END", format := .X, pattern := 0x0300000000000000, mask := 0xFFFFFFFFFFFFFF00 } 8 0x03
    (by decide) rfl (by decide) (by decide) (by decide) rfl (field_lt _)

theorem disd (idx : BitVec 8) : Statement (.disd idx) :=
  of_row { mnemonic := "DISD", format := .X, pattern := 0x0400000000000000, mask := 0xFFFFFFFFFFFFFF00 } 8 0x04
    (by decide) rfl (by decide) (by decide) (by decide) rfl (field_lt _)

theorem enr (rng : BitVec 4) : Statement (.enr rng) :=
  of_row { mnemonic := "ENR", format := .R, pattern := 0x0500000000000000, mask := 0xFFFFFFFFFFFFFFF0 } 4 0x05
    (by decide) rfl (by decide) (by decide) (by decide) rfl (field_lt _)

theorem disr : Statement .disr :=
  of_row { mnemonic := "DISR", format := .N, pattern := 0x0600000000000000, mask := 0xFFFFFFFFFFFFFFFF } 0 0x06
    (by decide) rfl (by decide) (by decide) (by decide) rfl (by decide)

theorem enc : Statement .enc :=
  of_row { mnemonic := "ENC", format := .N, pattern := 0x0700000000000000, mask := 0xFFFFFFFFFFFFFFFF } 0 0x07
    (by decide) rfl (by decide) (by decide) (by decide) rfl (by decide)

theorem disc : Statement .disc :=
  of_row { mnemonic := "DISC", format := .N, pattern := 0x0800000000000000, mask := 0xFFFFFFFFFFFFFFFF } 0 0x08
    (by decide) rfl (by decide) (by decide) (by decide) rfl (by decide)

theorem cnt : Statement .cnt :=
  of_row { mnemonic := "CNT", format := .N, pattern := 0x0900000000000000, mask := 0xFFFFFFFFFFFFFFFF } 0 0x09
    (by decide) rfl (by decide) (by decide) (by decide) rfl (by decide)

theorem srate (hz : BitVec 48) : Statement (.srate hz) :=
  of_row { mnemonic := "SRATE", format := .H, pattern := 0x1000000000000000, mask := 0xFFFF000000000000 } 48 0x10
    (by decide) rfl (by decide) (by decide) (by decide) rfl (field_lt _)

theorem setdec (val : BitVec 16) : Statement (.setdec val) :=
  of_row { mnemonic := "SETDEC", format := .V, pattern := 0x1100000000000000, mask := 0xFFFFFFFFFFFF0000 } 16 0x11
    (by decide) rfl (by decide) (by decide) (by decide) rfl (field_lt _)

theorem setfilt (flt : FilterMode) : Statement (.setfilt flt) :=
  of_row { mnemonic := "SETFILT", format := .F, pattern := 0x1200000000000000, mask := 0xFFFFFFFFFFFFFFFC } 2 0x12
    (by decide) rfl (by decide) (by decide) (by decide) rfl (field_lt _)

theorem setps (code : BitVec 3) : Statement (.setps code) :=
  of_row { mnemonic := "SETPS", format := .P, pattern := 0x1300000000000000, mask := 0xFFFFFFFFFFFFFFF8 } 3 0x13
    (by decide) rfl (by decide) (by decide) (by decide) rfl (field_lt _)

theorem pktw (code : BitVec 3) : Statement (.pktw code) :=
  of_row { mnemonic := "PKTW", format := .P, pattern := 0x1400000000000000, mask := 0xFFFFFFFFFFFFFFF8 } 3 0x14
    (by decide) rfl (by decide) (by decide) (by decide) rfl (field_lt _)

theorem rpp (wc : BitVec 16) (n : BitVec 8) : Statement (.rpp wc n) :=
  of_row { mnemonic := "RPP", format := .WN, pattern := 0x1500000000000000, mask := 0xFFFFFFFFFF000000 } 24 0x15
    (by decide) rfl (by decide) (by decide) (by decide) rfl (field_lt _)

theorem tmo : Statement .tmo :=
  of_row { mnemonic := "TMO", format := .N, pattern := 0x1600000000000000, mask := 0xFFFFFFFFFFFFFFFF } 0 0x16
    (by decide) rfl (by decide) (by decide) (by decide) rfl (by decide)

theorem start : Statement .start :=
  of_row { mnemonic := "START", format := .N, pattern := 0x2000000000000000, mask := 0xFFFFFFFFFFFFFFFF } 0 0x20
    (by decide) rfl (by decide) (by decide) (by decide) rfl (by decide)

theorem stop : Statement .stop :=
  of_row { mnemonic := "STOP", format := .N, pattern := 0x2100000000000000, mask := 0xFFFFFFFFFFFFFFFF } 0 0x21
    (by decide) rfl (by decide) (by decide) (by decide) rfl (by decide)

theorem rdsl (idx : BitVec 8) : Statement (.rdsl idx) :=
  of_row { mnemonic := "RDSL", format := .X, pattern := 0x2200000000000000, mask := 0xFFFFFFFFFFFFFF00 } 8 0x22
    (by decide) rfl (by decide) (by decide) (by decide) rfl (field_lt _)

theorem rdreg (idx : BitVec 8) : Statement (.rdreg idx) :=
  of_row { mnemonic := "RDREG", format := .X, pattern := 0x2300000000000000, mask := 0xFFFFFFFFFFFFFF00 } 8 0x23
    (by decide) rfl (by decide) (by decide) (by decide) rfl (field_lt _)

theorem cvtv (cnt : BitVec 16) : Statement (.cvtv cnt) :=
  of_row { mnemonic := "CVTV", format := .C, pattern := 0x3000000000000000, mask := 0xFFFFFFFFFFFF0000 } 16 0x30
    (by decide) rfl (by decide) (by decide) (by decide) rfl (field_lt _)

theorem cvtf (cnt : BitVec 16) (rng : BitVec 4) : Statement (.cvtf cnt rng) :=
  of_row { mnemonic := "CVTF", format := .CR, pattern := 0x3100000000000000, mask := 0xFFFFFFFFFFF00000 } 20 0x31
    (by decide) rfl (by decide) (by decide) (by decide) rfl (field_lt _)

end Sys2Proof.Laws.TableRow
end

