-- ==== Sys2Proof/Tests/Slice0.lean ====
section
/-! SUPPORT. Tests: ill-formed terms refused, words written out from the spec's encodings decoded, single steps against
the vectors of 95_test_vectors.md (cited by id), and for every statement with hypotheses a witness that meets them. -/

open Sys2Proof Sys2Proof.Machine

namespace Sys2Proof.Tests

/-! ## Small states and readings -/

/-- The state a step or command goes on to. -/
def nextOf (o : Host.Outcome State Fault Refusal) : Option State :=
  match o with
  | .next t => some t
  | .fault _ => none
  | .refused _ => none

/-- The responses of a command. -/
def rspsOf (o : Host.Outcome State Fault Refusal) : Option (List RspWord) := (nextOf o).map fun t => t.rsps

/-- Reset with analog channel 0 enabled. -/
def one : State := { State.reset with AEN := 0x01 }

/-- All eleven inputs enabled at range 11, SRATE 60000 (V42-1). -/
def full : State :=
  { State.reset with AEN := 0xFF, DEN := 0x7F, REN := true, RRANGE := 11, CEN := true, SRATE := 60000 }

/-- A session over analog channel 0, at its first loop top. -/
def session : State := one.beginSession

/-- The session with a read in flight. -/
def pending : State := { session with ENG := .readPending }

/-- The session walking the chunk b. -/
def walking (b : List Byte) : State := { session.loadBuffer b with ENG := .walk }

/-- The session waiting for the Consumer, record 0 of word 0x0010 presented. -/
def waiting : State :=
  let w : State := { walking [0x10, 0x00, 0x20, 0x00] with POS := 2, ACC := Acc.zero.update (.analog 0) 0x0010 }
  w.emitRecord

/-- The scan list [2, 8, 9] at range 5 (V42-15). -/
def three : State := { State.reset with SL := fillSlots [.analog 2, .digitals, .rate], SL_LEN := 3, SNAP_RANGE := 5 }

/-- s with RATE_RANGE_CODE_BASE = 1. -/
def base1 (s : State) : State := { s with params := { oddByte := .carry, rateRangeCodeBase := 1 } }

/-- s with ODD_BYTE_POLICY = drop. -/
def dropping (s : State) : State := { s with params := { oddByte := .drop, rateRangeCodeBase := 0 } }

/-! ## WellFormed: one ill-formed term for each check -/

theorem test_wf_unassigned_opcode : CmdWord.wf 0x0A00000000000000 = false := by decide
theorem test_wf_opcode_zero : CmdWord.wf 0 = false := by decide
theorem test_wf_reserved_N : CmdWord.wf 0x2000000000000001 = false := by decide
theorem test_wf_reserved_X : CmdWord.wf 0x0100000000000100 = false := by decide
theorem test_wf_reserved_R : CmdWord.wf 0x0500000000000010 = false := by decide
theorem test_wf_reserved_H : CmdWord.wf 0x1001000000000000 = false := by decide
theorem test_wf_reserved_V : CmdWord.wf 0x1100000000010000 = false := by decide
theorem test_wf_reserved_F : CmdWord.wf 0x1200000000000004 = false := by decide
theorem test_wf_reserved_P : CmdWord.wf 0x1300000000000008 = false := by decide
theorem test_wf_reserved_WN : CmdWord.wf 0x1500000001000000 = false := by decide
theorem test_wf_reserved_C : CmdWord.wf 0x3000000000010000 = false := by decide
theorem test_wf_reserved_CR : CmdWord.wf 0x3100000000100000 = false := by decide
theorem test_wf_words : [(0x0100000000000003 : CmdWord), 0x1000FFFFFFFFFFFF, 0x31000000000F0000].all CmdWord.wf = true := by
  decide

/-- R92: no operand that does not fit its field. -/
theorem test_wf_operands :
    [AsmCmd.ena 256, .disa 256, .end_ 256, .disd 256, .enr (.code 16), .enr (.hz 1001), .setdec 65536, .setfilt (.code 4), .setps 8, .pktw 8,
      .rpp 65536 0, .rpp 0 256, .rdsl 256, .rdreg 256, .cvtv 32768, .cvtv (-32769), .cvtf 32768 (.code 0),
      .cvtf (-32769) (.code 0), .cvtf 0 (.code 16), .srate (.q (2 ^ 48)), .srate (.decimal (2 ^ 32) 0)].any AsmCmd.wf = false := by
  decide

/-- V30-23: 1000.00001 is no multiple of 1/65536. -/
theorem test_wf_hertz_not_representable : (AsmCmd.srate (.decimal 100000001 5)).wf = false := by decide

/-! ## Encoding (V30-1 to V30-22) -/

theorem test_assemble_channel :
    [AsmCmd.ena 3, .ena 7, .disa 2, .end_ 6, .disd 0, .enr (.hz 10), .disr, .enc, .disc, .cnt].map assemble =
      [some 0x0100000000000003, some 0x0100000000000007, some 0x0200000000000002, some 0x0300000000000006,
        some 0x0400000000000000, some 0x050000000000000B, some 0x0600000000000000, some 0x0700000000000000,
        some 0x0800000000000000, some 0x0900000000000000] := by
  decide

theorem test_assemble_rate :
    [AsmCmd.srate (.decimal 1000 0), .srate (.q 6000037), .srate (.decimal 915 1), .setdec 65535, .setfilt (.name .minimum), .setps 7,
        .pktw 7, .rpp 1024 11, .tmo].map assemble =
      [some 0x1000000003E80000, some 0x10000000005B8DA5, some 0x10000000005B8000, some 0x110000000000FFFF,
        some 0x1200000000000003, some 0x1300000000000007, some 0x1400000000000007, some 0x15000000000B0400,
        some 0x1600000000000000] := by
  decide

theorem test_assemble_scan_and_conversion :
    [AsmCmd.start, .stop, .rdsl 10, .rdreg 0x2A, .cvtv (-1), .cvtf (-1) (.hz 1000)].map assemble =
      [some 0x2000000000000000, some 0x2100000000000000, some 0x220000000000000A, some 0x230000000000002A,
        some 0x300000000000FFFF, some 0x310000000005FFFF] := by
  decide

theorem test_assemble_refuses : assemble (.ena 256) = none := by decide

theorem test_decode_ena : decode 0x0100000000000003 = .ok (.ena 3) := by rfl
theorem test_decode_disa : decode 0x0200000000000002 = .ok (.disa 2) := by rfl
theorem test_decode_end : decode 0x0300000000000006 = .ok (.end_ 6) := by rfl
theorem test_decode_disd : decode 0x0400000000000000 = .ok (.disd 0) := by rfl
theorem test_decode_enr : decode 0x050000000000000B = .ok (.enr 11) := by rfl
theorem test_decode_disr : decode 0x0600000000000000 = .ok .disr := by rfl
theorem test_decode_enc : decode 0x0700000000000000 = .ok .enc := by rfl
theorem test_decode_disc : decode 0x0800000000000000 = .ok .disc := by rfl
theorem test_decode_cnt : decode 0x0900000000000000 = .ok .cnt := by rfl
theorem test_decode_srate : decode 0x1000FFFFFFFFFFFF = .ok (.srate 0xFFFFFFFFFFFF) := by rfl
theorem test_decode_setdec : decode 0x110000000000FFFF = .ok (.setdec 65535) := by rfl
theorem test_decode_setfilt : decode 0x1200000000000003 = .ok (.setfilt .minimum) := by rfl
theorem test_decode_setps : decode 0x1300000000000007 = .ok (.setps 7) := by rfl
theorem test_decode_pktw : decode 0x1400000000000007 = .ok (.pktw 7) := by rfl
theorem test_decode_rpp : decode 0x15000000000B0400 = .ok (.rpp 1024 11) := by rfl
theorem test_decode_tmo : decode 0x1600000000000000 = .ok .tmo := by rfl
theorem test_decode_start : decode 0x2000000000000000 = .ok .start := by rfl
theorem test_decode_stop : decode 0x2100000000000000 = .ok .stop := by rfl
theorem test_decode_rdsl : decode 0x220000000000000A = .ok (.rdsl 10) := by rfl
theorem test_decode_rdreg : decode 0x230000000000002A = .ok (.rdreg 0x2A) := by rfl
theorem test_decode_cvtv : decode 0x300000000000FFFF = .ok (.cvtv 0xFFFF) := by rfl
theorem test_decode_cvtf : decode 0x310000000005FFFF = .ok (.cvtf 0xFFFF 5) := by rfl
theorem test_decode_unassigned : decode 0x0A00000000000000 = .error .unassignedOpcode := by rfl
theorem test_decode_reserved_bit : decode 0x0100000000000100 = .error .reservedBits := by rfl
theorem test_decodeTableWord : decodeTableWord 64 0x310000000005FFFF = some (.cvtf 0xFFFF 5) := by rfl

/-! ## Channel configuration -/

/-- V40-1. -/
theorem test_ena_sets : (nextOf (exec (.ena 3) .reset)).map (fun t => (t.AEN, t.rsps)) = some (0x08, [0]) := by decide
/-- V40-3. -/
theorem test_ena_bad_index : rspsOf (exec (.ena 8) .reset) = some [0x0100000000000000] := by decide
/-- V40-6. -/
theorem test_disa_clears : (nextOf (exec (.disa 0) { State.reset with AEN := 0x09 })).map (·.AEN) = some 0x08 := by decide
/-- V40-7. -/
theorem test_end_sets :
    (nextOf (exec (.end_ 6) .reset)).map (fun t => (t.DEN, t.ENDO, t.NINPUTS)) = some (0x40, 0x3F, 1) := by decide
/-- V40-8. -/
theorem test_end_bad_index : rspsOf (exec (.end_ 7) .reset) = some [0x0200000000000000] := by decide
/-- V40-9. -/
theorem test_disd_clears :
    (nextOf (exec (.disd 6) { State.reset with DEN := 0x40 })).map (fun t => (t.DEN, t.ENDO)) = some (0, 0x7F) := by decide
/-- V40-10. -/
theorem test_enr_stores : (nextOf (exec (.enr 5) .reset)).map (fun t => (t.REN, t.RRANGE)) = some (true, 5) := by decide
/-- V40-11. -/
theorem test_enr_reserved : rspsOf (exec (.enr 12) .reset) = some [0x0900000000000000] := by decide
/-- V40-12. -/
theorem test_disr_keeps_range :
    (nextOf (exec .disr { State.reset with REN := true, RRANGE := 5 })).map (fun t => (t.REN, t.RRANGE))
      = some (false, 5) := by decide
/-- V40-13. -/
theorem test_enc_sets : (nextOf (exec .enc .reset)).map (·.CEN) = some true := by decide
/-- V40-14. -/
theorem test_disc_clears : (nextOf (exec .disc { State.reset with CEN := true })).map (·.CEN) = some false := by decide
/-- V40-21. -/
theorem test_cnt_counts :
    rspsOf (exec .cnt { State.reset with AEN := 0x05, DEN := 0x03, REN := true }) = some [4] := by decide
/-- V40-17. -/
theorem test_cnt_all : rspsOf (exec .cnt full) = some [11] := by decide

/-! ## Rate and packet arithmetic -/

/-- V41-19: a tie rounds away from zero. -/
theorem test_srate_tie : (nextOf (exec (.srate 0x96000000) one)).map (fun t => (t.SRATE, t.rsps)) = some (1563, [1563]) := by
  decide
/-- V41-6, V41-9, V41-14, V41-15: the boundaries 655356 / 655357 and 375 / 374. -/
theorem test_srate_boundaries :
    [(0x5B8DA1 : BitVec 48), 0x5B8DA0, 0x271D59E3F, 0x271D59E40].map (fun hz => rspsOf (exec (.srate hz) one)) =
      [some [655356], some [0x0400000000000000], some [375], some [0x0500000000000000]] := by decide
/-- R133's example: 44100 Hz gives the register 1361. -/
theorem test_achieved_rate :
    ((nextOf (exec (.srate 0xAC440000) one)).map fun t => t.achievedRate) = some (some (60000000, 1361)) := by decide
/-- V41-45. -/
theorem test_setdec : (nextOf (exec (.setdec 10) .reset)).map (·.DEC) = some 10 := by decide
/-- V41-46. -/
theorem test_setdec_zero : rspsOf (exec (.setdec 0) .reset) = some [0x0900000000000000] := by decide
/-- V41-48. -/
theorem test_setfilt : (nextOf (exec (.setfilt .cicFilter) .reset)).map (·.FILT) = some .cicFilter := by decide
/-- V41-49. -/
theorem test_setps : (nextOf (exec (.setps 7) .reset)).map (·.PSC) = some 7 := by decide
/-- V41-38. -/
theorem test_pktw : [(0 : BitVec 3), 1, 7].map (fun c => rspsOf (exec (.pktw c) .reset)) = [some [8], some [16], some [1024]] := by
  decide
/-- V41-42, V41-44. -/
theorem test_rpp :
    [exec (.rpp 1024 11) .reset, exec (.rpp 8 0) .reset].map rspsOf = [some [0x0B0400], some [0x010000]] := by decide
/-- V41-28. -/
theorem test_tmo_greatest : rspsOf (exec .tmo { one with SRATE := 655356, PSC := 7 }) = some [33554] := by decide
/-- V41-34. -/
theorem test_tmo_floor : rspsOf (exec .tmo { full with SRATE := 655356, PSC := 7 }) = some [5000] := by decide

/-! ## Scan list and scan control -/

/-- V42-1: the device commands with every input enabled. -/
theorem test_start_devq_full :
    (nextOf (exec .start full)).map (·.DEVQ) = some
      [.slist 0 0, .slist 1 1, .slist 2 2, .slist 3 3, .slist 4 4, .slist 5 5, .slist 6 6, .slist 7 7, .endo 0,
        .slist 8 8, .slist 9 2825, .slist 10 10, .srate 60000, .filter 0, .dec 1, .ps 0, .start0] := by decide
/-- V42-7: base 1. -/
theorem test_start_devq_base1 :
    (nextOf (exec .start
        { base1 .reset with AEN := 0x0C, DEN := 0x7F, REN := true, RRANGE := 5, SRATE := 60000 })).map
        (fun t => (t.slots, t.DEVQ)) = some
      ([.analog 2, .analog 3, .digitals, .rate],
        [.slist 0 2, .slist 1 3, .endo 0, .slist 2 8, .slist 3 1545, .srate 60000, .filter 0, .dec 1, .ps 0,
          .start0]) := by decide
/-- V42-14. -/
theorem test_stop_idle : rspsOf (exec .stop .reset) = some [0x0700000000000000] := by decide
/-- V42-13. -/
theorem test_stop_scanning :
    (nextOf (exec .stop { session with DEVQ := [] })).map (fun t => (t.SCAN, t.DEVQ, t.ENG)) =
      some (.idle, [.stop], .top) := by decide
/-- V42-15, V42-16. -/
theorem test_rdsl :
    [exec (.rdsl 2) three, exec (.rdsl 2) (base1 three)].map rspsOf = [some [0x05090009], some [0x06090009]] := by decide
/-- V42-18. -/
theorem test_rdsl_empty : rspsOf (exec (.rdsl 0) .reset) = some [0x0900000000000000] := by decide
/-- V42-19, V42-20; ENG (0x10) in READ_PENDING (P5, step 9) and FATAL (P3, step 10). -/
theorem test_rdreg_values :
    [exec (.rdreg 0x06) .reset, exec (.rdreg 0x0F) .reset, exec (.rdreg 0x0E) .reset, exec (.rdreg 0x08) .reset,
        exec (.rdreg 0x10) { pending with rsps := [] }, exec (.rdreg 0x10) { one with ENG := .fatal }].map rspsOf =
      [some [127], some [5000], some [8], some [1], some [2], some [5]] := by decide
/-- V42-21. -/
theorem test_rdreg_unmapped :
    [(0x17 : BitVec 8), 0x2B, 0xFF].map (fun a => rspsOf (exec (.rdreg a) .reset)) =
      [some [0x0900000000000000], some [0x0900000000000000], some [0x0900000000000000]] := by decide

/-! ## Packet decoder -/

/-- V43-1, V43-3, V43-5: word assembly and field update. -/
theorem test_update_fields :
    ((Acc.zero.update (.analog 7) (wordOf 0x34 0x12)).A.get 7, s16 (Acc.zero.update .rate (wordOf 0x00 0x80)).RT,
      (Acc.zero.update .digitals (wordOf 0x7F 0x5A)).D) = (0x1234, -32768, 0x5A) := by decide
/-- P1, record 1. -/
theorem test_record_word :
    ({ session with PKT := 1, ACC := Acc.zero.update (.analog 0) 1 } : State).record.pack =
      0x0000100000000000000000000000000000000000000000010000000000000001 := by decide
/-- P2, record 1. -/
theorem test_record_word_five_inputs :
    ({ State.reset with
        SL := fillSlots [.analog 1, .analog 3, .digitals, .rate, .count], SL_LEN := 5, SNAP_RANGE := 5, PKT := 1
        ACC := { A := #v[9, 0x64, 9, 0xFF38, 9, 9, 9, 9], D := 3, RT := 0x8000, CT := 0x11 } } : State).record.pack =
      0x0070A500118000030000000000000000FF380000006400000000000000000001 := by decide
/-- V43-7: under carry the lone byte is kept. -/
theorem test_carry_keeps :
    (nextOf (endOfBuffer { walking [0x10, 0x00, 0x20] with POS := 2 })).map (fun t => (t.RES_V, t.RES_B, t.BLEN, t.ENG)) =
      some (true, 0x20, 0, .top) := by decide
/-- V43-7: the kept byte is the low byte of the next word. -/
theorem test_carry_joins :
    (nextOf (chunkArrival [0x00] { pending with RES_V := true, RES_B := 0x20 })).map (fun t => (t.BUF, t.RES_V)) =
      some ([0x20, 0x00], false) := by decide
/-- V43-8: under drop it is lost. -/
theorem test_drop_loses :
    (nextOf (endOfBuffer (dropping { walking [0x10, 0x00, 0x20] with POS := 2 }))).map (fun t => (t.RES_V, t.RES_B)) =
      some (false, 0) := by decide
/-- V43-16. -/
theorem test_read_request :
    (nextOf (loopTop { session with SNAP_W := 16 })).map (fun t => (t.reads, t.ENG)) =
      some ([{ maxLength := 32, timeoutMs := 5000 }], .readPending) := by decide
/-- V43-13: FATAL, the buffer kept. -/
theorem test_fatal :
    (nextOf (consumerAnswer false { waiting with SCAN := .idle })).map (fun t => (t.ENG, t.POS, t.BLEN)) =
      some (.fatal, 2, 4) := by decide

/-! ## Value conversion and errors -/

/-- V44-3, V44-5. -/
theorem test_cvtv :
    [exec (.cvtv 0xFFFF) .reset, exec (.cvtv 0x8000) .reset].map rspsOf =
      [some [0x00FFFFFFFFFFFFF6], some [0x00FFFFFFFFFB0000]] := by decide
/-- V44-10, V44-11. -/
theorem test_cvtf :
    [exec (.cvtf 0 5) .reset, exec (.cvtf 0x7FFF 0) .reset].map rspsOf = [some [0x1F40000], some [0xC34F3CB0]] := by decide
/-- V44-21. -/
theorem test_cvtf_reserved : rspsOf (exec (.cvtf 0 12) .reset) = some [0x0900000000000000] := by decide
/-- The record-level forms on record 1 of P5. -/
theorem test_record_conversions :
    let w : RecWord := 0x00201900007FFF00000000000000000000000000000040000000000000000001
    (recVoltage w 0, recVoltage w 1, recFrequency w) = (some 163840, none, some 3276750) := by decide
/-- V60-1: an illegal word answers IllegalCommand before the gate. -/
theorem test_illegal_before_gate :
    rspsOf (runWord 0x0100000000000100 { session with rsps := [] }) = some [0x0800000000000000] := by decide
/-- V60-2: the gate answers before the index check. -/
theorem test_gate_before_index :
    rspsOf (exec (.ena 9) { session with rsps := [] }) = some [0x0600000000000000] := by decide

/-! ## Witnesses: states and operands that meet the hypotheses of each statement, clause by clause -/

theorem witness_EncodeOfDecodeIsTheWord : decode 0x31000000000FFFFF = .ok (.cvtf 0xFFFF 15) := by rfl

theorem witness_DecoderAcceptsExactlyTheTable :
    ∃ r ∈ opcodeTable, (0x0100000000000003 : CmdWord) &&& r.mask = r.pattern := by decide

theorem witness_IllegalWordAnswersIllegalCommand :
    ∀ r ∈ opcodeTable, (0x0A00000000000000 : CmdWord) &&& r.mask ≠ r.pattern := by decide

theorem witness_IllegalWordAnswersIllegalCommand_reserved :
    ∀ r ∈ opcodeTable, (0x0100000000000100 : CmdWord) &&& r.mask ≠ r.pattern := by decide

/-- A Host's turn with one command to take. -/
def hostNext : State := { one with turns := [.host, .engine], cmds := [0x0100000000000003, 0x0900000000000000] }

theorem witness_HostTurnRunsTheDecodedCommand :
    hostNext.turns = .host :: [.engine] ∧ hostNext.held = false ∧
      hostNext.cmds = 0x0100000000000003 :: [0x0900000000000000] ∧ decode 0x0100000000000003 = .ok (.ena 3) :=
  ⟨rfl, rfl, rfl, rfl⟩

theorem witness_HostTurnRunsTheDecodedCommand_illegal :
    let s : State := { hostNext with cmds := [0x0A00000000000000] };
    s.turns = .host :: [.engine] ∧ s.held = false ∧ s.cmds = 0x0A00000000000000 :: [] ∧
      decode 0x0A00000000000000 = .error .unassignedOpcode :=
  ⟨rfl, rfl, rfl, rfl⟩

theorem witness_PlacedWordRunsNext : State.reset.held = false ∧ decode 0x2000000000000000 = .ok .start := ⟨rfl, rfl⟩

theorem witness_StartHoldsThroughADrain :
    (let s : State := { one with ENG := .readPending };
      s.held = false ∧ s.SCAN = .idle ∧ inputCount s ≠ 0 ∧ s.ENG ≠ .stopped ∧ s.ENG ≠ .fatal) ∧
    (let s : State := { one with ENG := .walk, held := true, turns := [.host] };
      s.held = true ∧ s.ENG ≠ .stopped ∧ s.turns = .host :: []) ∧
    (let s : State := { one with held := true, turns := [.host] };
      s.held = true ∧ s.ENG = .stopped ∧ s.turns = .host :: []) := by decide

theorem witness_ResetTurnResetsEveryRegister : ({ session with turns := [.reset] } : State).turns = .reset :: [] := rfl

/-- ENA, DISA: both sides of the index bound. -/
theorem witness_EnaSetsOneAnalogBit :
    session.SCAN = .scanning ∧ (one.SCAN = .idle ∧ 8 ≤ (8 : BitVec 8).toNat) ∧
      one.SCAN = .idle ∧ (7 : BitVec 8).toNat ≤ 7 := by decide

theorem witness_DisaClearsOneAnalogBit :
    session.SCAN = .scanning ∧ (one.SCAN = .idle ∧ 8 ≤ (255 : BitVec 8).toNat) ∧
      one.SCAN = .idle ∧ (0 : BitVec 8).toNat ≤ 7 := by decide

/-- END, DISD: both sides of the index bound. -/
theorem witness_EndMakesOneLineAnInput :
    session.SCAN = .scanning ∧ (one.SCAN = .idle ∧ 7 ≤ (7 : BitVec 8).toNat) ∧
      one.SCAN = .idle ∧ (6 : BitVec 8).toNat ≤ 6 := by decide

theorem witness_DisdMakesOneLineAnOutput :
    session.SCAN = .scanning ∧ (full.SCAN = .idle ∧ 7 ≤ (255 : BitVec 8).toNat) ∧
      full.SCAN = .idle ∧ (0 : BitVec 8).toNat ≤ 6 := by decide

theorem witness_EnrEnablesRateWithItsRange :
    session.SCAN = .scanning ∧ (one.SCAN = .idle ∧ 12 ≤ (12 : BitVec 4).toNat) ∧
      one.SCAN = .idle ∧ (11 : BitVec 4).toNat ≤ 11 := by decide

theorem witness_DisrEncDiscWriteOneFlag : session.SCAN = .scanning ∧ full.SCAN = .idle := by decide

theorem witness_SrateStoresTheRoundedRegister :
    session.SCAN = .scanning ∧ (State.reset.SCAN = .idle ∧ inputCount .reset = 0) ∧
      (one.SCAN = .idle ∧ inputCount one ≠ 0 ∧ (0x5B8DA1 : BitVec 48) ≠ 0) := by decide

/-- The rounded registers at the four bounds: 655357, 655356, 375, 374. -/
theorem witness_SrateStoresTheRoundedRegister_bounds :
    NearestHalfUp (60000000 * 65536) (0x5B8DA0 : BitVec 48).toNat 655357 ∧
      NearestHalfUp (60000000 * 65536) (0x5B8DA1 : BitVec 48).toNat 655356 ∧
      NearestHalfUp (60000000 * 65536) (0x271D59E3F : BitVec 48).toNat 375 ∧
      NearestHalfUp (60000000 * 65536) (0x271D59E40 : BitVec 48).toNat 374 := by
  unfold NearestHalfUp
  decide

theorem witness_ScanRateIsNonIncreasing : 0 < 1 ∧ 1 ≤ 2 := by decide

theorem witness_SetdecStoresAPositiveFactor :
    session.SCAN = .scanning ∧ (one.SCAN = .idle ∧ (0 : BitVec 16) = 0) ∧
      one.SCAN = .idle ∧ (1 : BitVec 16) ≠ 0 := by decide

theorem witness_SetfiltAndSetpsStoreTheirCode : session.SCAN = .scanning ∧ one.SCAN = .idle := by decide

theorem witness_RppAnswersTheRatio : (0 : BitVec 8) = 0 ∧ (1 : BitVec 8) ≠ 0 := by decide

theorem witness_TmoAnswersTheDecodeTimeout :
    inputCount .reset = 0 ∧ (inputCount one ≠ 0 ∧ one.SRATE = 0) ∧
      (let s : State := { one with SRATE := 655356, PSC := 7 };
        inputCount s ≠ 0 ∧ s.SRATE ≠ 0 ∧
          NearestHalfUp (8 * 2 ^ s.PSC.toNat * s.SRATE.toNat) (20000 * inputCount s) 33554) := by
  unfold NearestHalfUp
  decide

theorem witness_TimeoutStaysInItsBounds :
    (655356 = 0 ∨ (375 ≤ 655356 ∧ 655356 ≤ 655356)) ∧ 1024 ≤ 1024 ∧ 1 ≤ 1 := by decide

theorem witness_StartErrorsInOrder :
    (session.held = false ∧ session.SCAN = .scanning) ∧
    (State.reset.held = false ∧ State.reset.SCAN = .idle ∧ inputCount .reset = 0) ∧
    (let s : State := { one with ENG := .fatal };
      s.held = false ∧ s.SCAN = .idle ∧ inputCount s ≠ 0 ∧ s.ENG = .fatal) := by decide

theorem witness_StartBeginsASession : StartReady one ∧ StartReady { one with held := true } := by
  unfold StartReady
  decide

theorem witness_StartBuildsTheScanList : StartReady full ∧ exec .start full = .next full.beginSession :=
  ⟨by unfold StartReady; decide, rfl⟩

theorem witness_StartEmitsTheConfigSequence :
    StartReady (base1 full) ∧ exec .start (base1 full) = .next (base1 full).beginSession :=
  ⟨by unfold StartReady; decide, rfl⟩

theorem witness_StopGoesIdleAndSendsStop :
    one.SCAN = .idle ∧ session.SCAN = .scanning ∧ ∃ t, exec .stop session = .next t :=
  ⟨by decide, by decide, _, rfl⟩

theorem witness_RdslReadsASlot :
    (let s := full.beginSession;
      s.SL_LEN.toNat ≤ 11 ∧ s.SL_LEN.toNat ≤ (11 : BitVec 8).toNat ∧
        (10 : Fin 11).val = (10 : BitVec 8).toNat ∧ (10 : Fin 11).val < s.SL_LEN.toNat) := by decide

theorem witness_RdregReadsTheMap :
    (∀ a ∈ [(0x00 : BitVec 8), 0x16, 0x20, 0x2A], ∃ p ∈ hostMapLow full ++ hostMapAcc full, a.toNat = p.1) ∧
    ∀ a ∈ [(0x17 : BitVec 8), 0x1F, 0x2B, 0xFF], ∀ p ∈ hostMapLow full ++ hostMapAcc full, a.toNat ≠ p.1 := by decide

theorem witness_CvtfAnswersTheFrequency :
    12 ≤ (12 : BitVec 4).toNat ∧ (11 : BitVec 4).toNat = ((11, 10) : Nat × Nat).1 := by decide

theorem witness_RecordConversions :
    let w : RecWord := 0x00201900007FFF00000000000000000000000000000040000000000000000001
    w.getLsbD (236 + (0 : Fin 8).val) = true ∧ w.getLsbD (236 + (7 : Fin 8).val) = false ∧ w.getLsbD 245 = true ∧
      rangeHz (w.extractLsb' 232 4) = some 50 ∧ (0 : RecWord).getLsbD 245 = false := by decide

theorem witness_LoopTopTestsScan :
    (let s : State := { session with turns := [.engine] };
      s.turns = .engine :: [] ∧ s.ENG = .top ∧ s.SCAN = .scanning) ∧
    (let s : State := { session with turns := [.engine], SCAN := .idle };
      s.turns = .engine :: [] ∧ s.ENG = .top ∧ s.SCAN = .idle) := by decide

/-- The greatest chunk has 16 bytes here. -/
theorem witness_ChunkArrivalReassemblesBytes :
    (let s : State := { pending with turns := [.transport []] };
      s.turns = .transport [] :: [] ∧ s.ENG = .readPending ∧ ([] : List Byte).length ≤ 2 * s.SNAP_W.toNat) ∧
    (let b : List Byte := List.replicate 16 7
      let s : State := { pending with turns := [.transport b], RES_V := true, RES_B := 9 };
      s.turns = .transport b :: [] ∧ s.ENG = .readPending ∧ b.length ≤ 2 * s.SNAP_W.toNat ∧ b ≠ [] ∧
        s.params.oddByte = .carry ∧ s.RES_V = true) ∧
    (let b : List Byte := [1]
      let s : State := dropping { pending with turns := [.transport b] };
      s.turns = .transport b :: [] ∧ s.ENG = .readPending ∧ b.length ≤ 2 * s.SNAP_W.toNat ∧ b ≠ [] ∧
        (s.params.oddByte = .drop ∨ s.RES_V = false)) := by decide

/-- One byte too many; no read in flight; nothing presented; an Engine that waits. -/
theorem witness_TurnWithNoMovePasses :
    2 * pending.SNAP_W.toNat < (List.replicate 17 (7 : Byte)).length ∧ session.ENG ≠ .readPending ∧
      session.ENG ≠ .waitConsumer ∧ pending.ENG = .readPending ∧ waiting.ENG = .waitConsumer ∧
      State.reset.ENG = .stopped := by decide

theorem witness_WordStepUpdatesOneField :
    let s : State := { full.beginSession.loadBuffer [0x34, 0x12] with ENG := .walk, turns := [.engine], CUR := 9 }
    s.turns = .engine :: [] ∧ s.ENG = .walk ∧ s.POS.toNat + 2 ≤ s.BLEN.toNat ∧ s.BUF[s.POS.toNat]? = some 0x34 ∧
      s.BUF[s.POS.toNat + 1]? = some 0x12 ∧ (9 : Fin 11).val = s.CUR.toNat ∧ s.CUR + 1 ≠ s.SL_LEN := by decide

theorem witness_WordStepClosesAPass :
    let s : State := { full.beginSession.loadBuffer [0x34, 0x12] with ENG := .walk, turns := [.engine], CUR := 10 }
    s.turns = .engine :: [] ∧ s.ENG = .walk ∧ s.POS.toNat + 2 ≤ s.BLEN.toNat ∧ s.BUF[s.POS.toNat]? = some 0x34 ∧
      s.BUF[s.POS.toNat + 1]? = some 0x12 ∧ (10 : Fin 11).val = s.CUR.toNat ∧ s.CUR + 1 = s.SL_LEN := by decide

theorem witness_EndOfBufferKeepsTheOddByte :
    (let s : State := { walking [1, 2, 3] with POS := 2, turns := [.engine] };
      s.turns = .engine :: [] ∧ s.ENG = .walk ∧ s.BLEN.toNat < s.POS.toNat + 2 ∧ s.BLEN.toNat = s.POS.toNat + 1 ∧
        s.params.oddByte = .carry ∧ s.BUF[s.POS.toNat]? = some 3) ∧
    (let s : State := { walking [1, 2] with POS := 2, turns := [.engine] };
      s.turns = .engine :: [] ∧ s.ENG = .walk ∧ s.BLEN.toNat < s.POS.toNat + 2 ∧ s.BLEN.toNat ≠ s.POS.toNat + 1) ∧
    (let s : State := dropping { walking [1, 2, 3] with POS := 2, turns := [.engine] };
      s.turns = .engine :: [] ∧ s.ENG = .walk ∧ s.BLEN.toNat < s.POS.toNat + 2 ∧ s.params.oddByte = .drop) := by decide

theorem witness_ConsumerAnswerOutcomes :
    (let s : State := { waiting with turns := [.consumer true] };
      s.turns = .consumer true :: [] ∧ s.ENG = .waitConsumer) ∧
    (let s : State := { waiting with turns := [.consumer false] };
      s.turns = .consumer false :: [] ∧ s.ENG = .waitConsumer ∧ s.SCAN = .scanning) ∧
    (let s : State := { waiting with turns := [.consumer false], SCAN := .idle };
      s.turns = .consumer false :: [] ∧ s.ENG = .waitConsumer ∧ s.SCAN = .idle) := by decide

theorem witness_ErrorChangesNoState :
    ∃ t, exec (.ena 8) one = .next t ∧ t.rsps = one.rsps ++ [rspWord .invalidAnalogIndex 0] ∧
      Status.invalidAnalogIndex ≠ .ok := ⟨_, rfl, by decide, by decide⟩

theorem witness_QueriesChangeNoState : IsQuery (.rdreg 0x10) ∧ IsQuery .cnt ∧ IsQuery (.cvtf 0 5) :=
  ⟨trivial, trivial, trivial⟩

/-- Reads: a loop top that issues one. -/
theorem witness_NoReadWhileIdle :
    let s : State := { session with turns := [.engine] };
    NoResetNext s ∧ ∃ t, step s = .next t ∧ t.reads ≠ s.reads := ⟨by unfold NoResetNext; decide, _, rfl, by decide⟩

/-- A Host's START from reset with one input enabled. -/
def startNext : State := { one with turns := [.host], cmds := [0x2000000000000000] }

theorem witness_SessionIsWrittenOnlyByStart :
    NoResetNext startNext ∧ ∃ t, step startNext = .next t ∧ t.SL_LEN ≠ startNext.SL_LEN :=
  ⟨by unfold NoResetNext; decide, _, rfl, by decide⟩

theorem witness_ConfigIsFrozenWhileScanning :
    let s : State := { session with turns := [.host], cmds := [0x0100000000000003] };
    NoResetNext s ∧ s.SCAN = .scanning ∧ ∃ t, step s = .next t :=
  ⟨by unfold NoResetNext; decide, by decide, _, rfl⟩

theorem witness_ScanChangesOnlyByStartAndStop :
    (NoResetNext startNext ∧ startNext.SCAN = .idle ∧ ∃ t, step startNext = .next t ∧ t.SCAN = .scanning) ∧
    (let s : State := { session with turns := [.host], cmds := [0x2100000000000000] };
      NoResetNext s ∧ s.SCAN = .scanning ∧ ∃ t, step s = .next t ∧ t.SCAN = .idle) ∧
    (let s : State := { waiting with turns := [.consumer false] };
      NoResetNext s ∧ s.SCAN = .scanning ∧ ∃ t, step s = .next t ∧ t.SCAN = .idle) :=
  ⟨⟨by unfold NoResetNext; decide, by decide, _, rfl, by decide⟩,
    ⟨by unfold NoResetNext; decide, by decide, _, rfl, by decide⟩,
    ⟨by unfold NoResetNext; decide, by decide, _, rfl, by decide⟩⟩

theorem witness_PortLogsOnlyGrow : NoResetNext startNext ∧ ∃ t, step startNext = .next t ∧ t.DEVQ ≠ startNext.DEVQ :=
  ⟨by unfold NoResetNext; decide, _, rfl, by decide⟩

theorem witness_RecordsCarryConsecutiveNumbers :
    let s : State := { walking [0x10, 0x00] with turns := [.engine] };
    NoResetNext s ∧ ∃ t, step s = .next t ∧ t.recs.length = 1 ∧ t.PKT = 1 :=
  ⟨by unfold NoResetNext; decide, _, rfl, by decide, by decide⟩

theorem witness_FatalIsStickyUntilReset :
    let s : State := { startNext with ENG := .fatal };
    NoResetNext s ∧ s.ENG = .fatal ∧ ∃ t, step s = .next t ∧ t.rsps = [0x0A00000000000000] :=
  ⟨by unfold NoResetNext; decide, by decide, _, rfl, by decide⟩

theorem witness_OnlyStartLeavesStopped :
    NoResetNext startNext ∧ startNext.ENG = .stopped ∧ ∃ t, step startNext = .next t ∧ t.ENG ≠ .stopped :=
  ⟨by unfold NoResetNext; decide, by decide, _, rfl, by decide⟩

/-- Both kinds of START of `TakesStart`: a START word taken, and a held START. -/
theorem witness_TakesStart : TakesStart startNext ∧ TakesStart { one with held := true, turns := [.host] } :=
  ⟨.inr ⟨rfl, rfl, _, _, rfl, rfl⟩, .inl ⟨rfl, rfl⟩⟩

theorem inv_startNext : startNext.Inv := by constructor <;> decide

theorem witness_StepKeepsTheInvariant : startNext.Inv ∧ ∃ t, step startNext = .next t ∧ t.ENG = .top :=
  ⟨inv_startNext, _, rfl, by decide⟩

theorem witness_NoStopUnderTheInvariant : startNext.Inv := inv_startNext

/-- A fresh session with a read, a chunk of one word and its step to come. -/
def streamStart : State := { session with turns := [.engine, .transport [0x10, 0x00], .engine, .consumer true] }

theorem inv_streamStart : streamStart.Inv := by constructor <;> decide

theorem witness_RecordsAreThoseOfTheStream :
    streamStart.Inv ∧ streamStart.FreshSession ∧ streamStart.OneSession ∧ streamStart.params.oddByte = .carry ∧
      ∃ t, Host.Core.run core 3 streamStart = .next t ∧ t.recs.length = 1 :=
  ⟨inv_streamStart, by unfold State.FreshSession; decide,
    ⟨by decide, by decide, by decide, by intro w hw; cases hw⟩, by decide, _, rfl, by decide⟩

end Sys2Proof.Tests
end

section
/-! SUPPORT. A Host's turn that takes a command word (R6, R66, R83), said once per function on the way from `step` to
`exec`; and the word and the state that `withFetchWord` places. -/

namespace Sys2Proof.Machine

/-- R83: a word that decodes is run as its command. -/
theorem runWord_of_decode_ok {w : CmdWord} {i : Instr} (h : decode w = .ok i) (s : State) :
    runWord w s = exec i s := by
  unfold runWord
  rw [h]

/-- R66: with no START held, the Host's turn takes and runs the next command word. -/
theorem hostTurn_of_cmds {s : State} {w : CmdWord} {ws : List CmdWord} (hh : s.held = false) (hc : s.cmds = w :: ws) :
    hostTurn s = runWord w { s with cmds := ws } := by
  unfold hostTurn
  rw [hh, hc]
  rfl

/-- R6, R70: a step on a Host's turn is that turn, taken off the list. -/
theorem step_of_host {s : State} {ts : List Turn} (ht : s.turns = .host :: ts) :
    step s = hostTurn { s with turns := ts } := by
  unfold step nextTurn
  rw [ht]
  rfl

/-- A table word of 64 bits is the command word itself. -/
@[simp] theorem tableWord_toNat (w : CmdWord) : tableWord 64 w.toNat = w := by
  unfold tableWord
  rw [Nat.mod_eq_of_lt w.isLt, BitVec.ofNat_toNat, BitVec.setWidth_eq]

/-- On a state with no START held, `withCommand` puts only a turn and a word in front, so taking both leads back. -/
theorem step_withCommand {s : State} (hh : s.held = false) (w : CmdWord) :
    step (s.withCommand w) = runWord w s := by
  have hback : { s.withCommand w with turns := s.turns, cmds := s.cmds } = s := by
    unfold State.withCommand
    rw [← hh]
  calc step (s.withCommand w)
      = hostTurn { s.withCommand w with turns := s.turns } := step_of_host rfl
    _ = runWord w { s.withCommand w with turns := s.turns, cmds := s.cmds } := hostTurn_of_cmds rfl rfl
    _ = runWord w s := by rw [hback]

/-- Settles O8: the placed word is `w` itself, and the step that takes it leads back to `s` before it runs. -/
theorem placedWordRunsNext : Obligations.PlacedWordRunsNext := by
  intro s w i hh hd
  unfold State.withFetchWord
  rw [tableWord_toNat, step_withCommand hh, runWord_of_decode_ok hd]

end Sys2Proof.Machine
end

section
/-! SUPPORT. What a step other than reset does to the port logs, the session registers and the packet number, said
once per shared operation, then per command and per turn; and the whole-machine rules of 10_state.md that follow. -/

namespace Sys2Proof.Machine

/-- R42, R75, R76: every port log of t begins with that of s. -/
def LogsGrow (s t : State) : Prop :=
  s.DEVQ <+: t.DEVQ ∧ s.recs <+: t.recs ∧ s.answers <+: t.answers ∧ s.reads <+: t.reads ∧ s.rsps <+: t.rsps

/-- The registers of the decoder (R33–R41), the records, the answers and the reads of two states agree. -/
structure SameDecoder (s t : State) : Prop where
  SL : t.SL = s.SL
  SL_LEN : t.SL_LEN = s.SL_LEN
  SNAP_RANGE : t.SNAP_RANGE = s.SNAP_RANGE
  SNAP_W : t.SNAP_W = s.SNAP_W
  SNAP_TMO : t.SNAP_TMO = s.SNAP_TMO
  ENG : t.ENG = s.ENG
  CUR : t.CUR = s.CUR
  ACC : t.ACC = s.ACC
  RES_V : t.RES_V = s.RES_V
  RES_B : t.RES_B = s.RES_B
  BUF : t.BUF = s.BUF
  BLEN : t.BLEN = s.BLEN
  POS : t.POS = s.POS
  PKT : t.PKT = s.PKT
  OUT : t.OUT = s.OUT
  recs : t.recs = s.recs
  answers : t.answers = s.answers
  reads : t.reads = s.reads

/-- R162: the step from s to t is the Host's turn on a START that finds the Engine stopped and begins a session. -/
structure BeginsSession (s t : State) : Prop where
  takesStart : TakesStart s
  stopped : s.ENG = .stopped
  top : t.ENG = .top
  scanning : t.SCAN = .scanning
  pkt_zero : t.PKT = 0
  recs : t.recs = s.recs

/-! ## The operations -/

theorem LogsGrow.refl (s : State) : LogsGrow s s :=
  ⟨List.prefix_rfl, List.prefix_rfl, List.prefix_rfl, List.prefix_rfl, List.prefix_rfl⟩

theorem LogsGrow.trans {s t u : State} (h : LogsGrow s t) (h' : LogsGrow t u) : LogsGrow s u := by
  obtain ⟨hd, hr, ha, hq, hp⟩ := h
  obtain ⟨hd', hr', ha', hq', hp'⟩ := h'
  exact ⟨hd.trans hd', hr.trans hr', ha.trans ha', hq.trans hq', hp.trans hp'⟩

theorem LogsGrow.respond (s : State) (st : Status) (d : Field56) : LogsGrow s (s.respond st d) := by
  simp [LogsGrow]

theorem LogsGrow.emit (s : State) (ds : List DevCmd) : LogsGrow s (s.emit ds) := by
  simp [LogsGrow]

theorem LogsGrow.issueRead (s : State) : LogsGrow s s.issueRead := by
  simp [LogsGrow]

theorem LogsGrow.answered (s : State) (c : Bool) : LogsGrow s (s.answered c) := by
  simp [LogsGrow]

theorem LogsGrow.forcedStop (s : State) : LogsGrow s s.forcedStop := by
  simp [LogsGrow]

theorem LogsGrow.beginSession (s : State) : LogsGrow s s.beginSession := by
  simp [LogsGrow]

theorem ConfigWrite.logsGrow {s u : State} (h : ConfigWrite s u) : LogsGrow s u := by
  rw [h.frame]
  exact .refl s

theorem ConfigWrite.SCAN {s u : State} (h : ConfigWrite s u) : u.SCAN = s.SCAN := by
  rw [h.frame]

theorem ConfigWrite.sameDecoder {s u : State} (h : ConfigWrite s u) : SameDecoder s u := by
  rw [h.frame]
  constructor <;> rfl

theorem SameDecoder.respond {s u : State} (h : SameDecoder s u) (st : Status) (d : Field56) :
    SameDecoder s (u.respond st d) := { h with }

/-- The turns and the command words still to come are no registers of the decoder. -/
theorem SameDecoder.of_inputs {s t : State} {ts : List Turn} {ws : List CmdWord}
    (h : SameDecoder { s with turns := ts, cmds := ws } t) : SameDecoder s t := { h with }

theorem BeginsSession.of_start {s u : State} (hs : TakesStart s) (he : s.ENG = .stopped) (hr : u.recs = s.recs) :
    BeginsSession s u.beginSession :=
  ⟨hs, he, by simp, by simp, by simp, by simpa using hr⟩

@[simp] theorem State.advance_SCAN (s : State) : s.advance.SCAN = s.SCAN := by
  unfold State.advance
  split <;> simp

@[simp] theorem State.takeWord_SCAN (s : State) (e : Entry) (b0 b1 : Byte) : (s.takeWord e b0 b1).SCAN = s.SCAN := by
  simp [State.takeWord]

/-- R32: where SCAN stays, it went neither way. -/
theorem scan_moves_of_eq {x y : ScanState} (h : y = x) (P Q : Prop) :
    (x = .idle → y = .scanning → P) ∧ (x = .scanning → y = .idle → Q) := by
  subst h
  cases y <;> simp

/-- R199: the cursor goes on, or the pass closes with a record. -/
theorem LogsGrow.advance (s : State) : LogsGrow s s.advance := by
  unfold State.advance
  split
  · simp [LogsGrow]
  · exact .refl s

theorem LogsGrow.takeWord (s : State) (e : Entry) (b0 b1 : Byte) : LogsGrow s (s.takeWord e b0 b1) :=
  LogsGrow.advance { s with POS := s.POS + 2, ACC := s.ACC.update e (wordOf b0 b1) }

/-- R88: the number bits of a record word. -/
theorem SampleRecord.pack_number (r : SampleRecord) : r.pack.extractLsb' 0 64 = r.PKTNO :=
  extract_append_low _ r.PKTNO

/-- R40, R200: t presents no record and leaves the packet number of s; or it presents one record that carries the
packet number, which then goes up by one, and the Engine goes from its walk to wait for the Consumer. -/
def NumbersRecords (s t : State) : Prop :=
  (t.recs = s.recs ∧ t.PKT = s.PKT) ∨
    ∃ r, t.recs = s.recs ++ [r] ∧ r.extractLsb' 0 64 = s.PKT ∧ t.PKT = s.PKT + 1 ∧
      s.ENG = .walk ∧ t.ENG = .waitConsumer

theorem NumbersRecords.emitRecord {s : State} (he : s.ENG = .walk) : NumbersRecords s s.emitRecord :=
  .inr ⟨s.record.pack, by simp, SampleRecord.pack_number _, by simp, he, by simp⟩

/-- R199: the cursor goes on, or the pass closes with a record. -/
theorem NumbersRecords.advance {s : State} (he : s.ENG = .walk) : NumbersRecords s s.advance := by
  unfold State.advance
  split
  · exact NumbersRecords.emitRecord (s := { s with CUR := 0 }) he
  · exact .inl ⟨rfl, rfl⟩

theorem NumbersRecords.takeWord {s : State} (he : s.ENG = .walk) (e : Entry) (b0 b1 : Byte) :
    NumbersRecords s (s.takeWord e b0 b1) :=
  NumbersRecords.advance (s := { s with POS := s.POS + 2, ACC := s.ACC.update e (wordOf b0 b1) }) he

/-! ## The commands -/

theorem CommandEffect.logsGrow {i : Instr} {s t : State} (h : CommandEffect i s t) : LogsGrow s t := by
  cases h with
  | error st => exact .respond s st 0
  | answer d => exact .respond s .ok d
  | config u d h => exact h.logsGrow.trans (.respond u .ok d)
  | stop => exact (LogsGrow.emit s [.stop]).trans (.respond _ .ok 0)
  | hold => exact .refl s
  | wait => exact .refl s
  | start => exact .beginSession s

/-- A command begins a session, or it leaves the decoder alone; and then it leaves SCAN or is a STOP. -/
theorem CommandEffect.session_cases {i : Instr} {s t : State} (h : CommandEffect i s t) :
    (i = .start ∧ s.ENG = .stopped ∧ t = s.beginSession) ∨
    (SameDecoder s t ∧ (t.SCAN = s.SCAN ∨ (i = .stop ∧ t.SCAN = .idle ∧ t.DEVQ = s.DEVQ ++ [.stop]))) := by
  cases h with
  | error st => exact .inr ⟨by constructor <;> rfl, .inl rfl⟩
  | answer d => exact .inr ⟨by constructor <;> rfl, .inl rfl⟩
  | config u d h => exact .inr ⟨h.sameDecoder.respond .ok d, .inl h.SCAN⟩
  | stop _ hi => exact .inr ⟨by constructor <;> rfl, .inr ⟨hi, rfl, rfl⟩⟩
  | hold => exact .inr ⟨by constructor <;> rfl, .inl rfl⟩
  | wait => exact .inr ⟨by constructor <;> rfl, .inl rfl⟩
  | start hi he => exact .inl ⟨hi, he, rfl⟩

/-! ## The turns -/

/-- A step other than reset moves no agent, or is a Host's turn, or a turn of another agent. -/
theorem step_cases_of_noReset {s t : State} (hr : NoResetNext s) (h : step s = .next t) :
    t = s ∨ (∃ ts, s.turns = .host :: ts ∧ TurnEffect .host { s with turns := ts } t) ∨
      ∃ tn ts, s.turns = tn :: ts ∧ tn ≠ .reset ∧ tn ≠ .host ∧ TurnEffect tn { s with turns := ts } t := by
  obtain ⟨-, rfl⟩ | ⟨tn, ts, hc, ht⟩ := step_cases h
  · exact .inl rfl
  · have htn : tn ≠ .reset := by
      rintro rfl
      exact hr (by rw [hc]; rfl)
    by_cases hh : tn = .host
    · subst hh
      exact .inr (.inl ⟨ts, hc, ht⟩)
    · exact .inr (.inr ⟨tn, ts, hc, htn, hh, ht⟩)

theorem TurnEffect.logsGrow {tn : Turn} {s t : State} (hr : tn ≠ .reset) (h : TurnEffect tn s t) : LogsGrow s t := by
  cases h with
  | reset h => exact absurd h hr
  | illegal => exact .respond s .illegalCommand 0
  | command _ _ w ws _ i _ _ ht => exact ht.logsGrow
  | heldStart => exact .beginSession s
  | read => exact .issueRead s
  | word _ _ _ b0 b1 e => exact .takeWord s e b0 b1
  | goOn => exact .answered s true
  | forcedStop => exact (LogsGrow.answered s false).trans (.forcedStop _)
  | fatal => exact .answered s false
  | pass | exitLoop | emptyChunk | carriedChunk | chunk | keepByte | endBuffer => exact .refl s

/-- A Host's turn begins a session, or it leaves the decoder alone; and then it leaves SCAN or takes a STOP. -/
theorem TurnEffect.host_cases {s t : State} {ts : List Turn} (hts : s.turns = .host :: ts)
    (h : TurnEffect .host { s with turns := ts } t) :
    BeginsSession s t ∨
    (SameDecoder s t ∧
      (t.SCAN = s.SCAN ∨ (TakesCommand s .stop ∧ t.SCAN = .idle ∧ t.DEVQ = s.DEVQ ++ [.stop]))) := by
  have hhost : s.turns.head? = some .host := by rw [hts]; rfl
  cases h with
  | pass => exact .inr ⟨by constructor <;> rfl, .inl rfl⟩
  | illegal => exact .inr ⟨by constructor <;> rfl, .inl rfl⟩
  | command _ hh w ws hc i hd _ ht =>
    have htake : TakesCommand s i := ⟨hhost, hh, w, ws, hc, hd⟩
    obtain ⟨rfl, he, rfl⟩ | ⟨hsame, hscan⟩ := ht.session_cases
    · exact .inl (.of_start (.inr htake) he rfl)
    · refine .inr ⟨SameDecoder.of_inputs (s := s) hsame, ?_⟩
      obtain hkeep | ⟨rfl, hidle, hq⟩ := hscan
      · exact .inl hkeep
      · exact .inr ⟨htake, hidle, hq⟩
  | heldStart _ hh he => exact .inl (.of_start (.inl ⟨hhost, hh⟩) he rfl)
  | reset | exitLoop | read | emptyChunk | carriedChunk | chunk | word | keepByte | endBuffer | goOn | forcedStop
  | fatal => contradiction

/-- Only the Consumer's answer 0 writes SCAN outside a Host's turn. -/
theorem TurnEffect.scan_cases {tn : Turn} {s t : State} (hr : tn ≠ .reset) (hh : tn ≠ .host)
    (h : TurnEffect tn s t) :
    t.SCAN = s.SCAN ∨ (tn = .consumer false ∧ s.ENG = .waitConsumer ∧ t = (s.answered false).forcedStop) := by
  cases h with
  | reset h => exact absurd h hr
  | illegal h | command h | heldStart h => exact absurd h hh
  | forcedStop h he => exact .inr ⟨h, he, rfl⟩
  | word => exact .inl (State.takeWord_SCAN ..)
  | pass | exitLoop | read | emptyChunk | carriedChunk | chunk | keepByte | endBuffer | goOn | fatal =>
    exact .inl rfl

/-- Outside a Host's turn only the Engine's word step touches the records and the packet number. -/
theorem TurnEffect.numbersRecords {tn : Turn} {s t : State} (hr : tn ≠ .reset) (hh : tn ≠ .host)
    (h : TurnEffect tn s t) : NumbersRecords s t := by
  cases h with
  | reset h => exact absurd h hr
  | illegal h | command h | heldStart h => exact absurd h hh
  | word _ he _ b0 b1 e => exact .takeWord he e b0 b1
  | forcedStop => exact .inl ⟨by simp, by simp⟩
  | pass | exitLoop | read | emptyChunk | carriedChunk | chunk | keepByte | endBuffer | goOn | fatal =>
    exact .inl ⟨rfl, rfl⟩

/-! ## The obligations -/

/-- Settles O52: a Host's turn begins a session, takes a STOP or leaves SCAN; of the other turns only the forced stop
writes it. -/
theorem scanChangesOnlyByStartAndStop : Obligations.ScanChangesOnlyByStartAndStop := by
  intro s t hr h
  obtain rfl | ⟨ts, hts, ht⟩ | ⟨tn, ts, hts, htn, hh, ht⟩ := step_cases_of_noReset hr h
  · exact scan_moves_of_eq rfl _ _
  · obtain hb | ⟨hsame, hkeep | ⟨htake, hidle, hq⟩⟩ := ht.host_cases hts
    · exact ⟨fun _ _ => ⟨hb.takesStart, hb.stopped, hb.top⟩, fun _ hi => by simp [hb.scanning] at hi⟩
    · exact scan_moves_of_eq hkeep _ _
    · exact ⟨fun _ hs => by simp [hidle] at hs, fun _ _ => ⟨hq, .inl ⟨htake, hsame.ENG⟩⟩⟩
  · obtain hkeep | ⟨rfl, he, rfl⟩ := ht.scan_cases htn hh
    · exact scan_moves_of_eq hkeep _ _
    · exact ⟨fun _ hs => by simp at hs, fun _ _ => ⟨by simp, .inr ⟨by simp [hts], he, by simp⟩⟩⟩

/-- Settles O53: no turn but reset takes anything from a log. -/
theorem portLogsOnlyGrow : Obligations.PortLogsOnlyGrow := by
  intro s t hr h
  obtain rfl | ⟨ts, -, ht⟩ | ⟨tn, ts, -, htn, -, ht⟩ := step_cases_of_noReset hr h
  · exact LogsGrow.refl t
  · exact TurnEffect.logsGrow (s := { s with turns := ts }) (by decide) ht
  · exact TurnEffect.logsGrow (s := { s with turns := ts }) htn ht

/-- Settles O54: a Host's turn begins a session or leaves the decoder alone; of the other turns only the word step that
closes a pass presents a record. -/
theorem recordsCarryConsecutiveNumbers : Obligations.RecordsCarryConsecutiveNumbers := by
  intro s t hr h
  obtain rfl | ⟨ts, hts, ht⟩ | ⟨tn, ts, hts, htn, hh, ht⟩ := step_cases_of_noReset hr h
  · exact .inl ⟨rfl, .inl rfl⟩
  · obtain hb | ⟨hsame, -⟩ := ht.host_cases hts
    · exact .inl ⟨hb.recs, .inr ⟨hb.pkt_zero, hb.takesStart, hb.stopped, hb.top⟩⟩
    · exact .inl ⟨hsame.recs, .inl hsame.PKT⟩
  · obtain ⟨hrec, hpkt⟩ | hrecord := ht.numbersRecords htn hh
    · exact .inl ⟨hrec, .inl hpkt⟩
    · exact .inr hrecord

end Sys2Proof.Machine
end

section
/-! SUPPORT. The queries of R67 and the host register map of R68: an equation per outcome of RDREG, RDSL and CVTF, the
registers as the numbers of the map, and RDREG as a lookup in it. -/

namespace Sys2Proof.Machine

/-! ## The word of a command as a sum -/

/-- R80, R93: the opcode stands above the operand, so the two add up. -/
theorem encode_eq_add (i : Instr) : encode i = (opcode i ++ (0 : Field56)) + (operand i).setWidth 64 := by
  apply BitVec.eq_of_toNat_eq
  have ho := (opcode i).isLt
  have hx := (operand i).isLt
  unfold encode
  rw [BitVec.toNat_add, BitVec.toNat_setWidth, BitVec.toNat_append, BitVec.toNat_append,
    ← Nat.shiftLeft_add_eq_or_of_lt hx, ← Nat.shiftLeft_add_eq_or_of_lt (0 : Field56).isLt, Nat.shiftLeft_eq]
  simp only [BitVec.ofNat_eq_ofNat, BitVec.toNat_ofNat]
  omega

/-- R82, R93: the word of a command whose operand is one field. -/
theorem encode_of_field {i : Instr} {w : Nat} {x : BitVec w} {op : BitVec 8} {base : CmdWord} (ho : opcode i = op)
    (hb : op ++ (0 : Field56) = base) (hx : operand i = x.setWidth 56) (hw : w ≤ 56) :
    encode i = base + x.setWidth 64 := by
  rw [encode_eq_add, hx, ho, hb, BitVec.setWidth_setWidth (by omega)]

/-! ## The outcomes of the queries -/

theorem execRdsl_of_none {s : State} {idx : BitVec 8} (h : s.slots[idx.toNat]? = none) :
    execRdsl idx s = .next (s.raise .reservedValue) := by
  unfold execRdsl
  rw [h]

theorem execRdsl_of_some {s : State} {idx : BitVec 8} {e : Entry} (h : s.slots[idx.toNat]? = some e) :
    execRdsl idx s = .next (s.respond .ok ((s.sourceCode e ++ (0 : BitVec 12) ++ e.tag).setWidth 56)) := by
  unfold execRdsl
  rw [h]

theorem execRdreg_of_none {s : State} {idx : BitVec 8} (h : s.hostReg idx = none) :
    execRdreg idx s = .next (s.raise .reservedValue) := by
  unfold execRdreg
  rw [h]

theorem execRdreg_of_some {s : State} {idx : BitVec 8} {v : Field56} (h : s.hostReg idx = some v) :
    execRdreg idx s = .next (s.respond .ok v) := by
  unfold execRdreg
  rw [h]

theorem execCvtf_of_none {rng : BitVec 4} (h : rangeHz rng = none) (cnt : BitVec 16) (s : State) :
    execCvtf cnt rng s = .next (s.raise .reservedValue) := by
  unfold execCvtf
  rw [h]

theorem execCvtf_of_some {rng : BitVec 4} {hz : Nat} (h : rangeHz rng = some hz) (cnt : BitVec 16) (s : State) :
    execCvtf cnt rng s = .next (s.respond .ok (zext56 (freqQ16 (s16 cnt) hz))) := by
  unfold execCvtf
  rw [h]

/-- R67: a query only answers, and its answer does not depend on the responses given before. -/
theorem query_responds {i : Instr} (h : IsQuery i) (s : State) :
    ∃ st d, ∀ rs, exec i { s with rsps := rs } = .next (State.respond { s with rsps := rs } st d) := by
  cases i with
  | cnt => exact ⟨.ok, zext56 s.NINPUTS, fun _ => rfl⟩
  | pktw code => exact ⟨.ok, zext56 (packetWords code), fun _ => rfl⟩
  | cvtv cnt => exact ⟨.ok, sext56 (voltQ15 (s16 cnt)), fun _ => rfl⟩
  | rpp wc n =>
    by_cases hn : n = 0
    · exact ⟨.ok, _, fun _ => if_pos hn⟩
    · exact ⟨.ok, _, fun _ => if_neg hn⟩
  | tmo =>
    by_cases hn : s.NINPUTS = 0
    · exact ⟨.noInputsConfigured, 0, fun _ => if_pos hn⟩
    · exact ⟨.ok, zext56 (decodeTimeoutMs s.SRATE.toNat (packetWords s.PSC) s.NINPUTS), fun _ => if_neg hn⟩
  | rdsl idx =>
    cases he : s.slots[idx.toNat]? with
    | none => exact ⟨.reservedValue, 0, fun _ => execRdsl_of_none he⟩
    | some e => exact ⟨.ok, (s.sourceCode e ++ (0 : BitVec 12) ++ e.tag).setWidth 56, fun _ => execRdsl_of_some he⟩
  | rdreg idx =>
    cases hv : s.hostReg idx with
    | none => exact ⟨.reservedValue, 0, fun _ => execRdreg_of_none hv⟩
    | some v => exact ⟨.ok, v, fun _ => execRdreg_of_some hv⟩
  | cvtf cnt rng =>
    cases hz : rangeHz rng with
    | none => exact ⟨.reservedValue, 0, fun _ => execCvtf_of_none hz cnt _⟩
    | some f => exact ⟨.ok, zext56 (freqQ16 (s16 cnt) f), fun _ => execCvtf_of_some hz cnt _⟩
  | ena | disa | end_ | disd | enr | disr | enc | disc | srate | setdec | setfilt | setps | start | stop =>
    contradiction

/-- Settles O47: the answer of a query, whatever the responses before it, is the answer it gives again after them. -/
theorem queriesChangeNoState : Obligations.QueriesChangeNoState := by
  intro i s hi
  obtain ⟨st, d, hq⟩ := query_responds hi s
  refine ⟨rspWord st d, hq s.rsps, (hq (s.rsps ++ [rspWord st d])).trans ?_⟩
  simp [State.respond]

/-! ## The registers as numbers -/

/-- R26: NINPUTS counts the enabled inputs. -/
theorem State.NINPUTS_eq_inputCount (s : State) : s.NINPUTS = inputCount s := by
  have hA : s.analogOn.length = (List.finRange 8).countP fun c => s.AEN.getLsbD c.val := by
    rw [List.countP_eq_length_filter]
    rfl
  have hD : bit (s.DEN != 0) = if s.DEN = 0 then 0 else 1 := by
    by_cases h : s.DEN = 0#7 <;> simp [h, bit]
  unfold State.NINPUTS inputCount
  rw [hA, hD]
  rfl

/-- R27: the complement of seven bits is their distance from 127. -/
theorem State.ENDO_toNat (s : State) : s.ENDO.toNat = 127 - s.DEN.toNat := by
  unfold State.ENDO
  rw [BitVec.toNat_not]

/-- R32: the bit of SCAN, by whether it is Scanning. -/
theorem ScanState.code_eq_ite (x : ScanState) : x.code = if x = .scanning then 1 else 0 := by
  cases x <;> rfl

/-- R38, R68: a flag above a byte. -/
theorem flag_append_toNat (v : Bool) (b : Byte) :
    (BitVec.ofBool v ++ b).toNat = (if v then 256 else 0) + b.toNat := by
  rw [BitVec.toNat_append, ← Nat.shiftLeft_add_eq_or_of_lt b.isLt]
  cases v <;> rfl

/-- R68: the low half of the packet number. -/
theorem lowHalf_toNat (x : BitVec 64) : (x.extractLsb' 0 32).toNat = x.toNat % 2 ^ 32 := by
  rw [BitVec.extractLsb'_toNat, Nat.shiftRight_zero]

/-- R68: the high half of the packet number. -/
theorem highHalf_toNat (x : BitVec 64) : (x.extractLsb' 32 32).toNat = x.toNat / 2 ^ 32 := by
  rw [BitVec.extractLsb'_toNat, Nat.shiftRight_eq_div_pow]
  omega

/-! ## The address map -/

/-- In a list whose keys differ a listed key is looked up to its value. -/
theorem lookup_of_mem {l : List (Nat × Nat)} (hn : (l.map Prod.fst).Nodup) {p : Nat × Nat} (h : p ∈ l) :
    l.lookup p.1 = some p.2 := by
  obtain ⟨l₁, l₂, rfl⟩ := List.append_of_mem h
  rw [List.map_append, List.map_cons, List.nodup_append] at hn
  obtain ⟨-, -, hd⟩ := hn
  refine List.lookup_eq_some_iff.2 ⟨l₁, l₂, rfl, fun q hq => ?_⟩
  exact bne_iff_ne.2 (hd q.1 (List.mem_map_of_mem hq) p.1 List.mem_cons_self).symm

/-- A number that is no key is looked up to nothing. -/
theorem lookup_of_notMem_keys {l : List (Nat × Nat)} {a : Nat} (h : a ∉ l.map Prod.fst) : l.lookup a = none :=
  List.lookup_eq_none_iff.2 fun _ hp => bne_iff_ne.2 fun ha => h (ha ▸ List.mem_map_of_mem hp)

/-- R68: the mapped addresses are 0x00 to 0x16 and 0x20 to 0x2A. -/
theorem hostMap_keys (s : State) :
    (hostMapLow s ++ hostMapAcc s).map Prod.fst = List.range' 0x00 23 ++ List.range' 0x20 11 := rfl

theorem hostMap_keys_nodup (s : State) : ((hostMapLow s ++ hostMapAcc s).map Prod.fst).Nodup := by
  rw [hostMap_keys]
  decide

/-- R68: every mapped value fits the 56 data bits of a response. -/
theorem hostMap_lt (s : State) : ∀ p ∈ hostMapLow s ++ hostMapAcc s, p.2 < 2 ^ 56 := by
  have flag_le (p : Prop) [Decidable p] (n : Nat) : (if p then n else 0) ≤ n := by split <;> omega
  have hn : inputCount s ≤ 11 := s.NINPUTS_eq_inputCount ▸ s.NINPUTS_le
  have he : s.ENG.code ≤ 5 := by cases s.ENG <;> decide
  have hren := flag_le (s.REN = true) 1
  have hcen := flag_le (s.CEN = true) 1
  have hscan := flag_le (s.SCAN = .scanning) 1
  have hres := flag_le (s.RES_V = true) 256
  simp only [hostMapLow, hostMapAcc, List.forall_mem_append, List.forall_mem_cons, List.forall_mem_map,
    List.not_mem_nil, false_imp_iff, implies_true, and_true]
  and_intros <;> omega

/-- R68: the host register space is its address map: once every register is written as a number, the arm of an address
and its entry in the map are the same. -/
theorem State.hostReg_eq_lookup (s : State) (a : BitVec 8) :
    s.hostReg a = ((hostMapLow s ++ hostMapAcc s).lookup a.toNat).map (BitVec.ofNat 56) := by
  unfold State.hostReg
  simp only [← BitVec.ofNat_toNat, s.NINPUTS_eq_inputCount, s.ENDO_toNat, ScanState.code_eq_ite, flag_append_toNat,
    lowHalf_toNat, highHalf_toNat]
  split
  case h_35 =>
    rw [lookup_of_notMem_keys]
    · rfl
    · rw [hostMap_keys]
      simp only [imp_false, List.mem_append, List.mem_range'_1] at *
      omega
  all_goals
    rename_i ha
    rw [ha]
    rfl

/-- Settles O33: RDREG looks its address up in the map. -/
theorem rdregReadsTheMap : Obligations.RdregReadsTheMap := by
  refine ⟨rfl, fun idx s => ⟨encode_of_field (op := 0x23) rfl (by decide) rfl (by decide), fun p hp ha => ?_,
    fun ha => ?_⟩⟩
  · have hreg : s.hostReg idx = some (BitVec.ofNat 56 p.2) := by
      rw [State.hostReg_eq_lookup, ha, lookup_of_mem (hostMap_keys_nodup s) hp]
      rfl
    exact ⟨execRdreg_of_some hreg, hostMap_lt s p hp⟩
  · have hkey : idx.toNat ∉ (hostMapLow s ++ hostMapAcc s).map Prod.fst := fun hk => by
      obtain ⟨p, hp, hpa⟩ := List.mem_map.1 hk
      exact ha p hp hpa.symm
    have hreg : s.hostReg idx = none := by
      rw [State.hostReg_eq_lookup, lookup_of_notMem_keys hkey]
      rfl
    exact execRdreg_of_none hreg

end Sys2Proof.Machine
end

section
/-! SUPPORT. Every command answers a next state (R66), and what it answers with. -/

namespace Sys2Proof.Machine

/-- The outcome is a next state: no fault and no refusal. -/
def AnswersNext (o : Host.Outcome State Fault Refusal) : Prop := ∃ t, o = .next t

theorem AnswersNext.next (t : State) : AnswersNext (.next t) := ⟨t, rfl⟩

theorem AnswersNext.ite {p : Prop} [Decidable p] {a b : Host.Outcome State Fault Refusal} (ha : AnswersNext a)
    (hb : AnswersNext b) : AnswersNext (if p then a else b) := by
  split
  · exact ha
  · exact hb

/-- R110: the gate itself answers when it refuses. -/
theorem AnswersNext.gated {s : State} {body : Host.Outcome State Fault Refusal} (h : AnswersNext body) :
    AnswersNext (gated s body) := .ite (.next _) h

theorem execSrate_answersNext (hz : BitVec 48) (s : State) : AnswersNext (execSrate hz s) := by
  refine .gated (.ite (.next _) ?_)
  cases scanRateReg hz.toNat with
  | none => exact .next _
  | some r => exact .ite (.next _) (.ite (.next _) (.next _))

/-- R162: a held START begins or waits; another is refused by one of its three checks, begins or holds. -/
theorem execStart_answersNext (s : State) : AnswersNext (execStart s) :=
  .ite (.ite (.next _) (.next _)) (.ite (.next _) (.ite (.next _) (.ite (.next _) (.ite (.next _) (.next _)))))

theorem query_answersNext {i : Instr} (h : IsQuery i) (s : State) : AnswersNext (exec i s) := by
  obtain ⟨st, d, hq⟩ := query_responds h s
  exact ⟨s.respond st d, hq s.rsps⟩

/-- R66: every command answers a next state from every state. -/
theorem exec_answersNext (i : Instr) (s : State) : AnswersNext (exec i s) := by
  cases i with
  | ena | disa | end_ | disd | enr | setdec => exact .gated (.ite (.next _) (.next _))
  | disr | enc | disc | setfilt | setps => exact .gated (.next _)
  | srate hz => exact execSrate_answersNext hz s
  | start => exact execStart_answersNext s
  | stop => exact .ite (.next _) (.next _)
  | cnt | pktw | rpp | tmo | rdsl | rdreg | cvtv | cvtf => exact query_answersNext (by trivial) s

theorem ConfigWrite.rsps {s u : State} (h : ConfigWrite s u) : u.rsps = s.rsps := by
  rw [h.frame]

/-- R66, R162: a command gives one response, but for a START that finds the Engine running and holds or waits on. -/
theorem CommandEffect.responds_or_holds {i : Instr} {s t : State} (h : CommandEffect i s t) :
    (∃ r, t.rsps = s.rsps ++ [r]) ∨ (i = .start ∧ t = { s with held := true } ∧ s.ENG ≠ .stopped) := by
  cases h with
  | error st => exact .inl ⟨rspWord st 0, rfl⟩
  | answer d => exact .inl ⟨rspWord .ok d, rfl⟩
  | config u d h => exact .inl ⟨rspWord .ok d, by rw [State.respond_rsps, h.rsps]⟩
  | stop => exact .inl ⟨rspWord .ok 0, rfl⟩
  | hold hi _ _ _ he => exact .inr ⟨hi, rfl, he⟩
  | wait hi hh he => exact .inr ⟨hi, by rw [← hh], he⟩
  | start => exact .inl ⟨rspWord .ok 0, State.beginSession_rsps s⟩

/-- Settles O48: a command always answers, and each of its effects gives one response or holds a START. -/
theorem everyCommandAnswersOnce : Obligations.EveryCommandAnswersOnce := by
  intro i s
  obtain ⟨t, ht⟩ := exec_answersNext i s
  exact ⟨t, ht, (exec_cases ht).responds_or_holds⟩

end Sys2Proof.Machine
end

section
/-! SUPPORT. The Host's turn on an illegal word (R83) and the Engine's turn on a word (R195), said once per function on
the way from `step`; and the two single-step rules they give. -/

namespace Sys2Proof.Machine

/-- R83: a word that does not decode answers IllegalCommand. -/
theorem runWord_of_decode_error {w : CmdWord} {r : Reject} (h : decode w = .error r) (s : State) :
    runWord w s = .next (s.raise .illegalCommand) := by
  unfold runWord
  rw [h]

/-- Settles O7: the step takes the turn and the word off their lists and runs the word. -/
theorem hostTurnRunsTheDecodedCommand : Obligations.HostTurnRunsTheDecodedCommand := by
  intro s ts w ws hts hh hc
  have hstep : step s = runWord w { s with turns := ts, cmds := ws } :=
    (step_of_host hts).trans (hostTurn_of_cmds hh hc)
  exact ⟨fun i hd => hstep.trans (runWord_of_decode_ok hd _),
    fun r hd => hstep.trans (runWord_of_decode_error hd _)⟩

/-- R6, R70: a step on the Engine's turn is that turn, taken off the list. -/
theorem step_of_engine {s : State} {ts : List Turn} (ht : s.turns = .engine :: ts) :
    step s = engineTurn { s with turns := ts } := by
  unfold step nextTurn
  rw [ht]
  rfl

/-- R190: in its walk, with two bytes left, the Engine takes a word step. -/
theorem engineTurn_of_walk {s : State} (he : s.ENG = .walk) (hp : s.POS.toNat + 2 ≤ s.BLEN.toNat) :
    engineTurn s = wordStep s := by
  unfold engineTurn
  rw [he]
  exact if_neg (Nat.not_lt.2 hp)

/-- R195: a word step on two bytes of the buffer and a slot of the scan list. -/
theorem wordStep_of_bytes {s : State} {b0 b1 : Byte} {e : Entry} (h0 : s.BUF[s.POS.toNat]? = some b0)
    (h1 : s.BUF[s.POS.toNat + 1]? = some b1) (hs : s.SL[s.CUR.toNat]? = some e) :
    wordStep s = .next (s.takeWord e b0 b1) := by
  unfold wordStep
  rw [h0, h1, hs]

/-- R195: the Engine's turn on a word of its buffer takes the word under the tag of the slot at the cursor. -/
theorem step_takeWord {s : State} {ts : List Turn} {b0 b1 : Byte} {j : Fin 11} (hts : s.turns = .engine :: ts)
    (he : s.ENG = .walk) (hp : s.POS.toNat + 2 ≤ s.BLEN.toNat) (h0 : s.BUF[s.POS.toNat]? = some b0)
    (h1 : s.BUF[s.POS.toNat + 1]? = some b1) (hj : j.val = s.CUR.toNat) :
    step s = .next (State.takeWord { s with turns := ts } (s.SL.get j) b0 b1) :=
  calc step s
    _ = engineTurn { s with turns := ts } := step_of_engine hts
    _ = wordStep { s with turns := ts } := engineTurn_of_walk he hp
    _ = .next (State.takeWord { s with turns := ts } (s.SL.get j) b0 b1) := wordStep_of_bytes h0 h1 (slot_at hj)

/-- Settles O42: the word updates the field of the slot's entry, and the cursor goes on. -/
theorem wordStepUpdatesOneField : Obligations.WordStepUpdatesOneField := by
  intro s ts b0 b1 j hts he hp h0 h1 hj hcur
  refine ⟨s.ACC.update (s.SL.get j) (wordOf b0 b1), ?_, fun c => ?_, ?_, ?_, ?_⟩
  · exact (step_takeWord hts he hp h0 h1 hj).trans (congrArg Host.Outcome.next (State.advance_next hcur))
  · rw [Acc.update_A, apply_ite BitVec.toNat, wordOf_toNat]
  · rw [Acc.update_D, highByte_wordOf]
  · rw [Acc.update_RT, apply_ite BitVec.toNat, wordOf_toNat]
  · rw [Acc.update_CT, apply_ite BitVec.toNat, wordOf_toNat]

end Sys2Proof.Machine
end

section
/-! SUPPORT. What a step other than reset does to the reads issued and to the scan list with its snapshots (R71–R73),
said once per operation, then per command and per turn. -/

namespace Sys2Proof.Machine

/-! ## The operations -/

@[simp] theorem State.advance_reads (s : State) : s.advance.reads = s.reads := by
  unfold State.advance
  split <;> simp

@[simp] theorem State.takeWord_reads (s : State) (e : Entry) (b0 b1 : Byte) :
    (s.takeWord e b0 b1).reads = s.reads := by
  simp [State.takeWord]

theorem SameSession.refl (s : State) : SameSession s s := ⟨rfl, rfl, rfl, rfl, rfl⟩

theorem SameDecoder.sameSession {s t : State} (h : SameDecoder s t) : SameSession s t :=
  ⟨h.SL, h.SL_LEN, h.SNAP_RANGE, h.SNAP_W, h.SNAP_TMO⟩

/-- R199: the cursor goes on, or the pass closes with a record. -/
theorem SameSession.advance (s : State) : SameSession s s.advance := by
  unfold State.advance
  split
  · simp [SameSession]
  · exact .refl s

theorem SameSession.takeWord (s : State) (e : Entry) (b0 b1 : Byte) : SameSession s (s.takeWord e b0 b1) :=
  SameSession.advance { s with POS := s.POS + 2, ACC := s.ACC.update e (wordOf b0 b1) }

/-! ## The commands and the turns -/

theorem CommandEffect.reads {i : Instr} {s t : State} (h : CommandEffect i s t) : t.reads = s.reads := by
  obtain ⟨-, -, rfl⟩ | ⟨hsame, -⟩ := h.session_cases
  · exact State.beginSession_reads s
  · exact hsame.reads

/-- R71, R191: only the Engine's loop top with SCAN = Scanning issues a read. -/
theorem TurnEffect.reads_cases {tn : Turn} {s t : State} (hr : tn ≠ .reset) (h : TurnEffect tn s t) :
    t.reads = s.reads ∨
      (tn = .engine ∧ s.SCAN = .scanning ∧ s.ENG = .top ∧ t = { s.issueRead with ENG := .readPending }) := by
  cases h with
  | reset h => exact absurd h hr
  | read htn he hs => exact .inr ⟨htn, hs, he, rfl⟩
  | command _ _ w ws _ i _ _ ht => exact .inl ht.reads
  | heldStart => exact .inl (State.beginSession_reads s)
  | word => exact .inl (State.takeWord_reads ..)
  | forcedStop => exact .inl (State.forcedStop_reads _)
  | pass | illegal | exitLoop | emptyChunk | carriedChunk | chunk | keepByte | endBuffer | goOn | fatal =>
    exact .inl rfl

/-- R73: outside a Host's turn nothing writes the scan list and the snapshots. -/
theorem TurnEffect.sameSession {tn : Turn} {s t : State} (hr : tn ≠ .reset) (hh : tn ≠ .host)
    (h : TurnEffect tn s t) : SameSession s t := by
  cases h with
  | reset h => exact absurd h hr
  | illegal h | command h | heldStart h => exact absurd h hh
  | word _ _ _ b0 b1 e => exact .takeWord s e b0 b1
  | forcedStop => simp [SameSession]
  | pass | exitLoop | read | emptyChunk | carriedChunk | chunk | keepByte | endBuffer | goOn | fatal => exact .refl s

/-! ## The obligations -/

/-- Settles O49: the one turn that issues a read is the Engine's loop top with SCAN = Scanning. -/
theorem noReadWhileIdle : Obligations.NoReadWhileIdle := by
  intro s t hr h
  obtain ⟨-, rfl⟩ | ⟨tn, ts, hts, ht⟩ := step_cases h
  · exact .inl rfl
  · have htn : tn ≠ .reset := fun he => hr (by rw [hts, he]; rfl)
    obtain hkeep | ⟨rfl, hs, he, rfl⟩ := ht.reads_cases htn
    · exact .inl hkeep
    · exact .inr ⟨by rw [hts]; rfl, hs, he, rfl, _, rfl⟩

/-- Settles O50: a Host's turn begins a session or leaves the decoder alone, and no other turn writes the session. -/
theorem sessionIsWrittenOnlyByStart : Obligations.SessionIsWrittenOnlyByStart := by
  intro s t hr h
  obtain rfl | ⟨ts, hts, ht⟩ | ⟨tn, ts, hts, htn, hh, ht⟩ := step_cases_of_noReset hr h
  · exact .inl (.refl t)
  · obtain hb | ⟨hsame, -⟩ := ht.host_cases hts
    · exact .inr ⟨hb.takesStart, hb.stopped, hb.top, hb.scanning⟩
    · exact .inl hsame.sameSession
  · exact .inl (TurnEffect.sameSession (s := { s with turns := ts }) htn hh ht)

end Sys2Proof.Machine
end

section
/-! SUPPORT. The command words: the decoder as its conditions on the two fields of a word (R80, R83), a format for each
command (R82), and the rows of the opcode table as conditions on the same two fields (R84). -/

namespace Sys2Proof

/-! ## The decoder by its conditions -/

/-- R80, R83: a word decodes to a command when its opcode has a format, the format's reserved bits are 0, and the command
is the one of its fields. -/
theorem decode_eq_ok_iff {w : CmdWord} {i : Instr} :
    decode w = .ok i ↔ ∃ f, opcodeFormat (cmdOpcode w) = some f ∧ cmdOperand w >>> f.width = 0#56 ∧
      instrOf (cmdOpcode w) (cmdOperand w) = some i := by
  unfold decode Format.reservedClear
  cases opcodeFormat (cmdOpcode w) with
  | none => simp
  | some f =>
    by_cases hr : cmdOperand w >>> f.width = 0#56
    · cases hi : instrOf (cmdOpcode w) (cmdOperand w) <;> simp [hr]
    · simp [hr]

/-- R83, R84: every opcode that has a format stands for a command, whatever its operand: the two functions list the same
opcodes. -/
theorem instrOf_of_opcodeFormat {op : BitVec 8} {f : Format} (h : opcodeFormat op = some f) (x : Field56) :
    ∃ i, instrOf op x = some i := by
  unfold opcodeFormat at h
  unfold instrOf
  split at h <;> cases h <;> simp [*]

/-! ## The format of a command -/

/-- R82, R84: the format of a command's operand. -/
def Instr.format : Instr → Format
  | .disr | .enc | .disc | .cnt | .tmo | .start | .stop => .N
  | .ena _ | .disa _ | .end_ _ | .disd _ | .rdsl _ | .rdreg _ => .X
  | .enr _ => .R
  | .srate _ => .H
  | .setdec _ => .V
  | .setfilt _ => .F
  | .setps _ | .pktw _ => .P
  | .rpp _ _ => .WN
  | .cvtv _ => .C
  | .cvtf _ _ => .CR

/-- R84: the decoder selects the command's format from its opcode. -/
@[simp] theorem opcodeFormat_opcode (i : Instr) : opcodeFormat (opcode i) = some i.format := by
  cases i <;> rfl

/-- R82: the reserved bits of a command's operand are 0. -/
@[simp] theorem operand_reserved (i : Instr) : operand i >>> i.format.width = 0#56 := by
  cases i with
  | disr | enc | disc | cnt | tmo | start | stop => rfl
  | _ => exact field_reserved _ (by decide)

/-- R82: of two fields placed from bit 0, the high one is read back. -/
theorem field_read_high {m n : Nat} (a : BitVec m) (b : BitVec n) (h : n + m ≤ 56) :
    ((a ++ b).setWidth 56).extractLsb' n m = a := by
  rw [BitVec.extractLsb'_setWidth_of_le h, extract_append_high]

/-- R82: of two fields placed from bit 0, the low one is read back. -/
theorem field_read_low {m n : Nat} (a : BitVec m) (b : BitVec n) (h : n ≤ 56) :
    ((a ++ b).setWidth 56).extractLsb' 0 n = b := by
  rw [BitVec.extractLsb'_setWidth_of_le (by omega), extract_append_low]

/-- R82, R84: a command is the one its own opcode and operand stand for. (`simp` must leave the width m + n of two fields
a sum, or the two lemmas above do not see it; the same in `operand_of_instrOf`.) -/
@[simp] theorem instrOf_opcode_operand (i : Instr) : instrOf (opcode i) (operand i) = some i := by
  cases i <;> simp [opcode, operand, instrOf, field_read, field_read_high, field_read_low, -Nat.reduceAdd]

/-- R84: a command taken from the fields of a word has the word's opcode. -/
theorem opcode_of_instrOf {op : BitVec 8} {x : Field56} {i : Instr} (h : instrOf op x = some i) : opcode i = op := by
  apply BitVec.eq_of_toNat_eq
  unfold instrOf at h
  split at h <;> cases h <;> exact Eq.symm ‹_›

/-- R82: a command taken from the fields of a word has the operand bits of its format. -/
theorem operand_of_instrOf {op : BitVec 8} {x : Field56} {i : Instr} (h : instrOf op x = some i) :
    operand i = (x.extractLsb' 0 i.format.width).setWidth 56 := by
  unfold instrOf at h
  split at h <;> cases h <;>
    simp [operand, Instr.format, Format.width, BitVec.extractLsb'_append_extractLsb'_eq_extractLsb',
      BitVec.of_length_zero, -Nat.reduceAdd]

/-! ## The opcode table by the fields of a word -/

/-- R84: a row of the table has its opcode's format; under its mask stand the bits above the format's fields, and its
pattern has the opcode over an operand 0. -/
theorem row_fields : ∀ r ∈ opcodeTable, opcodeFormat (cmdOpcode r.pattern) = some r.format ∧
    r.mask = ~~~(BitVec.ofNat 64 (2 ^ r.format.width - 1)) ∧ cmdOperand r.pattern = 0 := by decide

/-- R84: no two rows of the table share an opcode. -/
theorem row_eq_of_opcode : ∀ r ∈ opcodeTable, ∀ q ∈ opcodeTable,
    cmdOpcode r.pattern = cmdOpcode q.pattern → r = q := by
  have hnodup : (opcodeTable.map fun r => cmdOpcode r.pattern).Nodup := by decide
  exact fun r hr q hq h => List.inj_on_of_nodup_map hnodup hr hq h

/-- The converse of `append_and_mask`: what is left under a mask of the bits above w is the high part, and the low part
has no bit from w up. -/
theorem of_append_and_mask {m n w : Nat} {a p : BitVec m} {b : BitVec n} (hw : w ≤ n)
    (h : (a ++ b) &&& ~~~(BitVec.ofNat (m + n) (2 ^ w - 1)) = p ++ (0 : BitVec n)) : a = p ∧ b >>> w = 0 := by
  have hbit (k : Nat) := congrArg (·.getLsbD k) h
  simp only [BitVec.getLsbD_and, BitVec.getLsbD_not, BitVec.getLsbD_append, BitVec.getLsbD_ofNat,
    Nat.testBit_two_pow_sub_one] at hbit
  constructor <;> apply BitVec.eq_of_getLsbD_eq <;> intro k hk
  · simpa [hk, show ¬ n + k < w by omega, show n + k < m + n by omega] using hbit (n + k)
  · by_cases hn : w + k < n
    · simpa [hn, show w + k < m + n by omega] using hbit (w + k)
    · simp [BitVec.getLsbD_of_ge b (w + k) (by omega)]

/-- R83, R84: a word of a row has the row's opcode, and the reserved bits of the row's format are 0. -/
theorem fields_of_row {r : TableRow} {w : CmdWord} (hr : r ∈ opcodeTable) (h : w &&& r.mask = r.pattern) :
    cmdOpcode w = cmdOpcode r.pattern ∧ cmdOperand w >>> r.format.width = 0#56 := by
  obtain ⟨-, hmask, hzero⟩ := row_fields r hr
  refine of_append_and_mask (w := r.format.width) ?_ ?_
  · cases r.format <;> decide
  · rw [opcode_append_operand, ← hzero, opcode_append_operand, ← hmask, h]

/-- R84: the word of every command belongs to a row. -/
theorem encode_mem_row (i : Instr) : ∃ r ∈ opcodeTable, encode i &&& r.mask = r.pattern := by
  have hrow : Laws.TableRow.Statement i := by
    cases i with
    | ena idx => exact Laws.TableRow.ena idx
    | disa idx => exact Laws.TableRow.disa idx
    | end_ idx => exact Laws.TableRow.end_ idx
    | disd idx => exact Laws.TableRow.disd idx
    | enr rng => exact Laws.TableRow.enr rng
    | disr => exact Laws.TableRow.disr
    | enc => exact Laws.TableRow.enc
    | disc => exact Laws.TableRow.disc
    | cnt => exact Laws.TableRow.cnt
    | srate hz => exact Laws.TableRow.srate hz
    | setdec val => exact Laws.TableRow.setdec val
    | setfilt flt => exact Laws.TableRow.setfilt flt
    | setps code => exact Laws.TableRow.setps code
    | pktw code => exact Laws.TableRow.pktw code
    | rpp wc n => exact Laws.TableRow.rpp wc n
    | tmo => exact Laws.TableRow.tmo
    | start => exact Laws.TableRow.start
    | stop => exact Laws.TableRow.stop
    | rdsl idx => exact Laws.TableRow.rdsl idx
    | rdreg idx => exact Laws.TableRow.rdreg idx
    | cvtv cnt => exact Laws.TableRow.cvtv cnt
    | cvtf cnt rng => exact Laws.TableRow.cvtf cnt rng
  obtain ⟨r, hr, -, h⟩ := hrow
  exact ⟨r, hr, h⟩

/-! ## The obligations -/

/-- Settles O1: the opcode and the operand of an encoded command are read back as they were put in (`cmdOpcode_encode`,
`cmdOperand_encode`), and they meet each condition of the decoder. -/
theorem decodeOfEncodeIsTheCommand : Obligations.DecodeOfEncodeIsTheCommand := by
  intro i
  exact decode_eq_ok_iff.2 ⟨i.format, by simp⟩

/-- Settles O2: opcode and operand of the command are those of the word, and a word is its opcode and operand. -/
theorem encodeOfDecodeIsTheWord : Obligations.EncodeOfDecodeIsTheWord := by
  intro w i h
  obtain ⟨f, hf, hr, hi⟩ := decode_eq_ok_iff.1 h
  have hop : opcode i = cmdOpcode w := opcode_of_instrOf hi
  obtain rfl : i.format = f := by rwa [← hop, opcodeFormat_opcode, Option.some.injEq] at hf
  have hx : operand i = cmdOperand w := (operand_of_instrOf hi).trans (field_of_reserved _ hr)
  rw [encode, hop, hx, opcode_append_operand]

/-- Settles O3: a word that decodes is an encoding, and those lie in the rows; a row's mask leaves the two conditions of
the decoder, and the opcode names the row. -/
theorem decoderAcceptsExactlyTheTable : Obligations.DecoderAcceptsExactlyTheTable := by
  refine fun w => ⟨⟨fun ⟨i, h⟩ => ?_, fun ⟨r, hr, h⟩ => ?_⟩, fun r hr q hq h h' => ?_⟩
  · exact encodeOfDecodeIsTheWord w i h ▸ encode_mem_row i
  · obtain ⟨hop, hx⟩ := fields_of_row hr h
    have hf : opcodeFormat (cmdOpcode w) = some r.format := by rw [hop, (row_fields r hr).1]
    obtain ⟨i, hi⟩ := instrOf_of_opcodeFormat hf (cmdOperand w)
    exact ⟨i, decode_eq_ok_iff.2 ⟨r.format, hf, hx, hi⟩⟩
  · exact row_eq_of_opcode r hr q hq ((fields_of_row hr h).1.symm.trans (fields_of_row hq h').1)

/-- Settles O5: each of the nine words is the encoding of its command. -/
theorem writtenOutWordsDecode : Obligations.WrittenOutWordsDecode :=
  ⟨decodeOfEncodeIsTheCommand (.ena 3), decodeOfEncodeIsTheCommand (.end_ 6), decodeOfEncodeIsTheCommand (.enr 11),
    decodeOfEncodeIsTheCommand (.srate 0x3E80000), decodeOfEncodeIsTheCommand (.setfilt .minimum),
    decodeOfEncodeIsTheCommand (.rpp 1024 11), decodeOfEncodeIsTheCommand .start,
    decodeOfEncodeIsTheCommand (.rdreg 0x2A), decodeOfEncodeIsTheCommand (.cvtf 0xFFFF 5)⟩

end Sys2Proof

namespace Sys2Proof.Machine

/-- Settles O4: a word of no row decodes to no command (`decoderAcceptsExactlyTheTable`), so the Host's word is refused
with the response of IllegalCommand. -/
theorem illegalWordAnswersIllegalCommand : Obligations.IllegalWordAnswersIllegalCommand := by
  intro w s hrow
  cases hd : decode w with
  | error r => exact runWord_of_decode_error hd s
  | ok i =>
    obtain ⟨r, hr, h⟩ := (decoderAcceptsExactlyTheTable w).1.1 ⟨i, hd⟩
    exact absurd h (hrow r hr)

/-- Settles O6: the status stands above the data, and the codes are those listed. -/
theorem responseWordFields : Obligations.ResponseWordFields :=
  ⟨fun st d => ⟨extract_append_high st.code d, extract_append_low st.code d⟩, rfl⟩

end Sys2Proof.Machine
end

section
/-! SUPPORT. The fields of a record word (R88): the bits that stand at each place of `SampleRecord.pack`, and the record
read back from them. -/

namespace Sys2Proof.Machine

/-! ## The layout of a record word -/

/-- R88: the word w holds the record r, every bit range of the layout with its value, bit 255 down to bit 0. -/
structure RecordLayout (r : SampleRecord) (w : RecWord) : Prop where
  top : w.extractLsb' 247 9 = 0
  PC : w.extractLsb' 246 1 = presenceBit r.CT
  PR : w.extractLsb' 245 1 = presenceBit r.RT
  PD : w.extractLsb' 244 1 = presenceBit r.DIG
  PA : w.extractLsb' 236 8 = r.presenceA
  RANGE : w.extractLsb' 232 4 = r.RANGE
  CT : w.extractLsb' 216 16 = fieldBits r.CT
  RT : w.extractLsb' 200 16 = fieldBits r.RT
  DIG : w.extractLsb' 192 8 = fieldBits r.DIG
  A : w.extractLsb' 64 128 = r.valuesA
  PKTNO : w.extractLsb' 0 64 = r.PKTNO

/-- R88: a packed record has the layout. (`simp` must leave the sums of the part widths alone, or the rules for a part of
a concatenation do not see them; the same in the two lemmas below.) -/
theorem SampleRecord.pack_layout (r : SampleRecord) : RecordLayout r r.pack := by
  unfold pack
  constructor <;>
    simp [BitVec.extractLsb'_append_eq_of_le, BitVec.extractLsb'_append_eq_of_add_le, -Nat.reduceAdd]

/-- R88: the presence bit of an analog input within PA. -/
theorem SampleRecord.presenceA_extract (r : SampleRecord) (c : Fin 8) :
    r.presenceA.extractLsb' c.val 1 = presenceBit (r.A.get c) := by
  unfold presenceA
  fin_cases c <;>
    simp [BitVec.extractLsb'_append_eq_of_le, BitVec.extractLsb'_append_eq_of_add_le, -Nat.reduceAdd]

/-- R88: the value bits of an analog input within A. -/
theorem SampleRecord.valuesA_extract (r : SampleRecord) (c : Fin 8) :
    r.valuesA.extractLsb' (16 * c.val) 16 = fieldBits (r.A.get c) := by
  unfold valuesA
  fin_cases c <;>
    simp [BitVec.extractLsb'_append_eq_of_le, BitVec.extractLsb'_append_eq_of_add_le, -Nat.reduceAdd]

/-- A part of a part of a word is a part of the word. -/
theorem extract_extract {w lo m k n : Nat} (x : BitVec w) (h : k + n ≤ m) :
    (x.extractLsb' lo m).extractLsb' k n = x.extractLsb' (lo + k) n := by
  ext j hj
  simp [Nat.add_assoc, show k + j < m by omega]

theorem RecordLayout.analogPresence {r : SampleRecord} {w : RecWord} (h : RecordLayout r w) (c : Fin 8) :
    w.extractLsb' (236 + c.val) 1 = presenceBit (r.A.get c) := by
  rw [← r.presenceA_extract c, ← h.PA, extract_extract w (by omega)]

theorem RecordLayout.analogValue {r : SampleRecord} {w : RecWord} (h : RecordLayout r w) (c : Fin 8) :
    w.extractLsb' (64 + 16 * c.val) 16 = fieldBits (r.A.get c) := by
  rw [← r.valuesA_extract c, ← h.A, extract_extract w (by omega)]

/-! ## Reading the fields back -/

/-- R88: the presence bit says whether the field is there. -/
theorem getLsbD_of_presenceBit {w : RecWord} {p n : Nat} {f : Option (BitVec n)}
    (h : w.extractLsb' p 1 = presenceBit f) : w.getLsbD p = f.isSome := by
  rw [BitVec.getLsbD_eq_extractLsb', h]
  cases f <;> rfl

/-- R14, R88: a field is read back from its presence bit and its value bits. -/
theorem fieldAt_eq {w : RecWord} {p lo n : Nat} {f : Option (BitVec n)} (hp : w.extractLsb' p 1 = presenceBit f)
    (hv : w.extractLsb' lo n = fieldBits f) : fieldAt w p lo n = f := by
  unfold fieldAt
  rw [getLsbD_of_presenceBit hp, hv]
  cases f <;> rfl

/-- R88: an analog input of a record word is the field at its two places. -/
theorem unpackRecord_A_get (w : RecWord) (c : Fin 8) :
    (unpackRecord w).A.get c = fieldAt w (236 + c.val) (64 + 16 * c.val) 16 := by
  fin_cases c <;> rfl

/-- R88: the record is read back from every word that has its layout. -/
theorem RecordLayout.unpackRecord_eq {r : SampleRecord} {w : RecWord} (h : RecordLayout r w) : unpackRecord w = r := by
  have hA : (unpackRecord w).A = r.A := by
    ext1 k hk
    exact (unpackRecord_A_get w ⟨k, hk⟩).trans (fieldAt_eq (h.analogPresence ⟨k, hk⟩) (h.analogValue ⟨k, hk⟩))
  have hDIG : (unpackRecord w).DIG = r.DIG := fieldAt_eq h.PD h.DIG
  have hRT : (unpackRecord w).RT = r.RT := fieldAt_eq h.PR h.RT
  have hCT : (unpackRecord w).CT = r.CT := fieldAt_eq h.PC h.CT
  cases r
  exact (SampleRecord.mk.injEq ..).mpr ⟨h.PKTNO, hA, hDIG, hRT, hCT, h.RANGE⟩

/-- Settles O37: the packed word has the layout, and a word of that layout reads back. -/
theorem packedRecordReadsBack : Obligations.PackedRecordReadsBack := fun r =>
  ⟨r.pack_layout.unpackRecord_eq, r.pack_layout.top⟩

end Sys2Proof.Machine
end

section
/-! SUPPORT. Channel configuration (R111–R119): one written bit of an enable register and what ENDO shows of it, and the
two sides of an operand check behind the mutator gate. -/

namespace Sys2Proof.Machine

/-! ## One bit of an enable register -/

/-- R9: setting or clearing bit c of a register of any width, read back at each of its bits. -/
theorem getLsbD_writtenBit {w : Nat} (r : BitVec w) (c : Nat) (v : Bool) {k : Nat} (hk : k < w) :
    (if v then r ||| 1#w <<< c else r &&& ~~~(1#w <<< c)).getLsbD k = if k = c then v else r.getLsbD k := by
  have hbit : (1#w <<< c).getLsbD k = decide (k = c) := by
    rw [← BitVec.twoPow_eq, BitVec.getLsbD_twoPow]
    by_cases hc : k = c
    · simp [← hc, hk]
    · simp [hc, Ne.symm hc]
  cases v with
  | false =>
    rw [if_neg Bool.false_ne_true, BitVec.getLsbD_and, BitVec.getLsbD_not, hbit, decide_eq_true hk, Bool.true_and,
      Bool.and_comm, Bool.if_false_left]
  | true => rw [if_pos rfl, BitVec.getLsbD_or, hbit, Bool.or_comm, Bool.if_true_left]

/-- R21: the bits of AEN after a write to bit c. -/
theorem getLsbD_writeBit8 (r : BitVec 8) (c : Nat) (v : Bool) {k : Nat} (hk : k < 8) :
    (writeBit8 r c v).getLsbD k = if k = c then v else r.getLsbD k := getLsbD_writtenBit r c v hk

/-- R22: the bits of DEN after a write to bit c. -/
theorem getLsbD_writeBit7 (r : BitVec 7) (c : Nat) (v : Bool) {k : Nat} (hk : k < 7) :
    (writeBit7 r c v).getLsbD k = if k = c then v else r.getLsbD k := getLsbD_writtenBit r c v hk

/-- R27: ENDO shows the complement of every line's bit of DEN. -/
theorem State.ENDO_getLsbD (s : State) {k : Nat} (hk : k < 7) : s.ENDO.getLsbD k = !s.DEN.getLsbD k := by
  rw [State.ENDO, BitVec.getLsbD_not, decide_eq_true hk, Bool.true_and]

/-- R27: writing a line's bit of DEN turns its bit of ENDO to the complement. -/
theorem State.ENDO_getLsbD_written (s : State) {c : Nat} (v : Bool) (hc : c < 7) :
    ({ s with DEN := writeBit7 s.DEN c v }).ENDO.getLsbD c = !v := by
  rw [State.ENDO_getLsbD _ hc, getLsbD_writeBit7 s.DEN c v hc, if_pos rfl]

/-! ## A checked operand behind the gate -/

section
variable {s : State} {p : Prop} [Decidable p] {refused accepted : Host.Outcome State Fault Refusal}

/-- R110: with SCAN = Idle a mutator whose operand fails the check refuses. -/
theorem gated_check_refuses (hs : s.SCAN = .idle) (hp : p) :
    gated s (if p then refused else accepted) = refused := (gated_idle hs _).trans (if_pos hp)

/-- R110: with SCAN = Idle a mutator whose operand passes the check is carried out. -/
theorem gated_check_accepts (hs : s.SCAN = .idle) (hp : ¬ p) :
    gated s (if p then refused else accepted) = accepted := (gated_idle hs _).trans (if_neg hp)

end

/-! ## The obligations -/

/-- Settles O12: ENA writes `writeBit8` of AEN with a 1. -/
theorem enaSetsOneAnalogBit : Obligations.EnaSetsOneAnalogBit := fun idx s =>
  ⟨encode_of_field (op := 0x01) rfl (by decide) rfl (by decide), fun hs => gated_scanning hs _, gated_check_refuses,
    fun hs hx => ⟨writeBit8 s.AEN idx.toNat true,
      fun c => (getLsbD_writeBit8 s.AEN _ true c.isLt).trans (Bool.if_true_left ..),
      gated_check_accepts hs (Nat.not_lt.2 hx)⟩⟩

/-- Settles O13: DISA writes `writeBit8` of AEN with a 0. -/
theorem disaClearsOneAnalogBit : Obligations.DisaClearsOneAnalogBit := fun idx s =>
  ⟨encode_of_field (op := 0x02) rfl (by decide) rfl (by decide), fun hs => gated_scanning hs _, gated_check_refuses,
    fun hs hx => ⟨writeBit8 s.AEN idx.toNat false,
      fun c => (getLsbD_writeBit8 s.AEN _ false c.isLt).trans (Bool.if_false_left ..),
      gated_check_accepts hs (Nat.not_lt.2 hx)⟩⟩

/-- Settles O14: END writes `writeBit7` of DEN with a 1, and ENDO shows its complement. -/
theorem endMakesOneLineAnInput : Obligations.EndMakesOneLineAnInput := fun idx s =>
  ⟨encode_of_field (op := 0x03) rfl (by decide) rfl (by decide), fun hs => gated_scanning hs _, gated_check_refuses,
    fun hs hx => ⟨writeBit7 s.DEN idx.toNat true,
      fun c => (getLsbD_writeBit7 s.DEN _ true c.isLt).trans (Bool.if_true_left ..),
      gated_check_accepts hs (Nat.not_lt.2 hx), s.ENDO_getLsbD_written true (Nat.lt_succ_of_le hx)⟩⟩

/-- Settles O15: DISD writes `writeBit7` of DEN with a 0, and ENDO shows its complement. -/
theorem disdMakesOneLineAnOutput : Obligations.DisdMakesOneLineAnOutput := fun idx s =>
  ⟨encode_of_field (op := 0x04) rfl (by decide) rfl (by decide), fun hs => gated_scanning hs _, gated_check_refuses,
    fun hs hx => ⟨writeBit7 s.DEN idx.toNat false,
      fun c => (getLsbD_writeBit7 s.DEN _ false c.isLt).trans (Bool.if_false_left ..),
      gated_check_accepts hs (Nat.not_lt.2 hx), s.ENDO_getLsbD_written false (Nat.lt_succ_of_le hx)⟩⟩

/-- Settles O16: a range code above 11 fails ENR's check, any other is written. -/
theorem enrEnablesRateWithItsRange : Obligations.EnrEnablesRateWithItsRange := fun _ _ =>
  ⟨encode_of_field (op := 0x05) rfl (by decide) rfl (by decide), fun hs => gated_scanning hs _, gated_check_refuses,
    fun hs hr => gated_check_accepts hs (Nat.not_lt.2 hr)⟩

/-- Settles O17: behind the gate each of the three is one write with no check. -/
theorem disrEncDiscWriteOneFlag : Obligations.DisrEncDiscWriteOneFlag := by
  refine fun s => ⟨⟨rfl, rfl, rfl⟩, fun hs i hi => ?_, fun hs => ⟨gated_idle hs _, gated_idle hs _, gated_idle hs _⟩⟩
  rcases hi with rfl | rfl | rfl <;> exact gated_scanning hs _

/-- Settles O18: CNT answers NINPUTS, which is the count of the enables (`State.NINPUTS_eq_inputCount`) and at most 11
(`State.NINPUTS_le`). -/
theorem cntCountsEnabledInputs : Obligations.CntCountsEnabledInputs := by
  intro s
  rw [← s.NINPUTS_eq_inputCount]
  exact ⟨rfl, rfl, s.NINPUTS_le⟩

end Sys2Proof.Machine
end

section
/-! SUPPORT. Rate and packet arithmetic (R130–R141): the rounded quotient of R12 with its order, the scan-rate register
and the decode timeout as such quotients, and an equation per outcome of SRATE, RPP and TMO. -/

namespace Sys2Proof.Machine

/-! ## The rounded quotient -/

/-- R12: a rounded quotient lies above p exactly when the quotient is at least p + 1/2. -/
theorem lt_roundHa_iff {a b p : Nat} (hb : 0 < b) : p < roundHa a b ↔ (2 * p + 1) * b ≤ 2 * a := by
  have h : (p + 1) * (2 * b) = (2 * p + 1) * b + b := by ring
  rw [roundHa, Nat.lt_iff_add_one_le, Nat.le_div_iff_mul_le (Nat.mul_pos (by decide) hb), h, Nat.add_le_add_iff_right]

/-- R12: the rounded quotient grows with the dividend and falls with the divisor. -/
theorem roundHa_le_roundHa {a a' b b' : Nat} (hb' : 0 < b') (ha : a ≤ a') (hb : b' ≤ b) :
    roundHa a b ≤ roundHa a' b' := by
  refine le_of_forall_lt fun p hp => ?_
  rw [lt_roundHa_iff (Nat.lt_of_lt_of_le hb' hb)] at hp
  rw [lt_roundHa_iff hb']
  calc (2 * p + 1) * b' ≤ (2 * p + 1) * b := Nat.mul_le_mul_left _ hb
    _ ≤ 2 * a := hp
    _ ≤ 2 * a' := Nat.mul_le_mul_left _ ha

/-- R12: the nearest integer, ties away from zero, is the rounded quotient. -/
theorem roundHa_of_nearest {a b q : Nat} (h : NearestHalfUp a b q) : roundHa a b = q := by
  obtain ⟨hlo, hhi⟩ := h
  exact Nat.div_eq_of_lt_le (by linarith) (by linarith)

/-! ## The scan-rate register and the decode timeout -/

@[simp] theorem scanRateReg_zero : scanRateReg 0 = none := rfl

/-- R130: a hertz other than 0 has the rounded register. -/
theorem scanRateReg_of_ne_zero {H : Nat} (h : H ≠ 0) : scanRateReg H = some (roundHa (60000000 * 65536) H) := if_neg h

/-- R137: the packet words of a code. -/
theorem packetWords_eq (code : BitVec 3) : packetWords code = 8 * 2 ^ code.toNat := Nat.shiftLeft_eq ..

@[simp] theorem decodeTimeoutMs_zero (W N : Nat) : decodeTimeoutMs 0 W N = 5000 := rfl

/-- R140: with SRATE set the timeout is the rounded quotient, at least the floor. -/
theorem decodeTimeoutMs_of_ne_zero {S : Nat} (h : S ≠ 0) (W N : Nat) :
    decodeTimeoutMs S W N = max 5000 (roundHa (W * S) (20000 * N)) := if_neg h

/-! ## Two fields in a word of 56 or 64 bits -/

/-- R10: of a value placed from bit 0, the bits above it are 0. -/
theorem field_read_above {w : Nat} (x : BitVec w) (n : Nat) (h : w ≤ 56) : (x.setWidth 56).extractLsb' w n = 0#n := by
  rw [← BitVec.setWidth_ushiftRight_eq_extractLsb, field_reserved x h, BitVec.setWidth_zero]

/-- R9: two fields side by side are the sum of the high one in its place and the low one. -/
theorem append_setWidth_eq_add {m n : Nat} (x : BitVec m) (y : BitVec n) (k : Nat) :
    (x ++ y).setWidth k = (x.setWidth k <<< n) + y.setWidth k := by
  apply BitVec.eq_of_toNat_eq
  rw [BitVec.toNat_setWidth, BitVec.toNat_append, ← Nat.shiftLeft_add_eq_or_of_lt y.isLt]
  simp [Nat.shiftLeft_eq]

/-- R82, R93: the word of a command whose operand is two fields. -/
theorem encode_of_two_fields {i : Instr} {m n : Nat} {x : BitVec m} {y : BitVec n} {op : BitVec 8} {base : CmdWord}
    (ho : opcode i = op) (hb : op ++ (0 : Field56) = base) (hx : operand i = (x ++ y).setWidth 56) (hw : m + n ≤ 56) :
    encode i = base + (x.setWidth 64 <<< n) + y.setWidth 64 := by
  rw [encode_of_field ho hb hx hw, append_setWidth_eq_add, BitVec.add_assoc]

/-! ## The outcomes of SRATE, RPP and TMO -/

/-- R132: SRATE with no finite register is above the maximum. -/
theorem execSrate_of_none {hz : BitVec 48} {s : State} (hs : s.SCAN = .idle) (hn : s.NINPUTS ≠ 0)
    (h : scanRateReg hz.toNat = none) : execSrate hz s = .next (s.raise .dataRateAboveMaximum) := by
  unfold execSrate
  rw [gated_check_accepts hs hn, h]

/-- R132: SRATE with a register r is its two bound checks and its write. -/
theorem execSrate_of_some {hz : BitVec 48} {s : State} {r : Nat} (hs : s.SCAN = .idle) (hn : s.NINPUTS ≠ 0)
    (h : scanRateReg hz.toNat = some r) :
    execSrate hz s =
      if r > Config.SRATE_MAX then .next (s.raise .dataRateAboveMaximum)
      else if r < Config.SRATE_MIN then .next (s.raise .dataRateBelowMinimum)
      else .next ({ s with SRATE := BitVec.ofNat 20 r }.respond .ok (zext56 r)) := by
  unfold execSrate
  rw [gated_check_accepts hs hn, h]

/-- R139: RPP of 0 entries answers 0/1. -/
theorem execRpp_zero (wc : BitVec 16) (s : State) :
    execRpp wc 0 s = .next (s.respond .ok (((1 : BitVec 8) ++ (0 : BitVec 16)).setWidth 56)) := if_pos rfl

/-- R139: RPP of n ≠ 0 entries answers wc / n. -/
theorem execRpp_of_ne_zero {n : BitVec 8} (hn : n ≠ 0) (wc : BitVec 16) (s : State) :
    execRpp wc n s = .next (s.respond .ok ((n ++ wc).setWidth 56)) := if_neg hn

/-- R141: TMO with an input enabled answers the timeout. -/
theorem execTmo_of_inputs {s : State} (hn : s.NINPUTS ≠ 0) :
    execTmo s = .next (s.respond .ok (zext56 (decodeTimeoutMs s.SRATE.toNat (packetWords s.PSC) s.NINPUTS))) :=
  if_neg hn

/-! ## The obligations -/

/-- Settles O19: past the gate and the input check, the register of `scanRateReg` is the nearest integer
(`roundHa_of_nearest`), and each clause is one branch of the bound checks (`execSrate_of_some`). -/
theorem srateStoresTheRoundedRegister : Obligations.SrateStoresTheRoundedRegister := by
  intro hz s
  rw [← s.NINPUTS_eq_inputCount]
  refine ⟨encode_of_field (op := 0x10) rfl (by decide) rfl (by decide), fun hs => gated_scanning hs _,
    gated_check_refuses, fun hs hn h0 => execSrate_of_none hs hn (h0 ▸ scanRateReg_zero), fun hs hn h0 r hr => ?_⟩
  have hreg : scanRateReg hz.toNat = some r :=
    roundHa_of_nearest hr ▸ scanRateReg_of_ne_zero (BitVec.toNat_ne_iff_ne.mpr h0)
  have hexec := execSrate_of_some hs hn hreg
  refine ⟨fun hmax => hexec.trans (if_pos hmax), fun hmin => hexec.trans ?_, fun hmin hmax => hexec.trans ?_⟩
  · have hmax : ¬ r > Config.SRATE_MAX := Nat.not_lt.2 (Nat.le_trans (Nat.le_of_lt hmin) (by decide))
    exact (if_neg hmax).trans (if_pos hmin)
  · exact (if_neg (Nat.not_lt.2 hmax)).trans (if_neg (Nat.not_lt.2 hmin))

/-- Settles O20: both registers are rounded quotients of one dividend, and these fall with the divisor
(`roundHa_le_roundHa`). -/
theorem scanRateIsNonIncreasing : Obligations.ScanRateIsNonIncreasing :=
  ⟨scanRateReg_zero, fun _ _ hH hHK =>
    ⟨_, _, scanRateReg_of_ne_zero hH.ne', scanRateReg_of_ne_zero (hH.trans_le hHK).ne',
      roundHa_le_roundHa hH le_rfl hHK⟩⟩

/-- Settles O24: the answer is two fields placed from bit 0, read back by `field_read_low` and `field_read_high`. -/
theorem rppAnswersTheRatio : Obligations.RppAnswersTheRatio := by
  refine fun wc n s => ⟨encode_of_two_fields (op := 0x15) rfl (by decide) rfl (by decide), ?_⟩
  by_cases hn : n = 0
  · subst hn
    exact ⟨_, execRpp_zero wc s, by decide, fun _ => by decide, fun h => absurd rfl h⟩
  · exact ⟨_, execRpp_of_ne_zero hn wc s, field_read_above (n ++ wc) 32 (by decide), fun h => absurd h hn,
      fun _ => ⟨field_read_low n wc (by decide), field_read_high n wc (by decide)⟩⟩

/-- Settles O25: with SRATE set, the timeout's rounded quotient is the nearest integer (`roundHa_of_nearest`). -/
theorem tmoAnswersTheDecodeTimeout : Obligations.TmoAnswersTheDecodeTimeout := by
  intro s
  rw [← s.NINPUTS_eq_inputCount]
  refine ⟨rfl, fun hn => if_pos hn, fun hn h0 => (execTmo_of_inputs hn).trans ?_,
    fun hn h0 q hq => (execTmo_of_inputs hn).trans ?_⟩
  · rw [h0]
    rfl
  · rw [decodeTimeoutMs_of_ne_zero (BitVec.toNat_ne_iff_ne.mpr h0), packetWords_eq, roundHa_of_nearest hq]
    rfl

/-- Settles O26: the quotient is at most that of the greatest dividend and the least divisor, which is 33554. -/
theorem timeoutStaysInItsBounds : Obligations.TimeoutStaysInItsBounds := by
  intro S W N hS hW hN
  rcases Nat.eq_zero_or_pos S with rfl | hpos
  · rw [decodeTimeoutMs_zero]
    decide
  · have hS' : S ≤ 655356 := by omega
    have hq : roundHa (W * S) (20000 * N) ≤ 33554 :=
      roundHa_le_roundHa (a' := 1024 * 655356) (by decide) (Nat.mul_le_mul hW hS') (Nat.le_mul_of_pos_right 20000 hN)
    rw [decodeTimeoutMs_of_ne_zero hpos.ne']
    exact ⟨le_max_left .., max_le (by decide) hq⟩

/-- Settles O21: the value 0 fails SETDEC's check, any other is written. -/
theorem setdecStoresAPositiveFactor : Obligations.SetdecStoresAPositiveFactor := fun _ _ =>
  ⟨encode_of_field (op := 0x11) rfl (by decide) rfl (by decide), fun hs => gated_scanning hs _, gated_check_refuses,
    gated_check_accepts⟩

/-- Settles O22: behind the gate each of the two is one write with no check. -/
theorem setfiltAndSetpsStoreTheirCode : Obligations.SetfiltAndSetpsStoreTheirCode := fun _ _ _ =>
  ⟨encode_of_field (op := 0x12) rfl (by decide) rfl (by decide),
    encode_of_field (op := 0x13) rfl (by decide) rfl (by decide), rfl,
    fun hs => ⟨gated_scanning hs _, gated_scanning hs _⟩, fun hs => ⟨gated_idle hs _, gated_idle hs _⟩⟩

/-- Settles O23: PKTW answers `packetWords`, which is 8 · 2^code. -/
theorem pktwAnswersPacketWords : Obligations.PktwAnswersPacketWords := by
  refine fun code s => ⟨encode_of_field (op := 0x14) rfl (by decide) rfl (by decide), ?_⟩
  rw [← packetWords_eq]
  rfl

end Sys2Proof.Machine
end

section
/-! SUPPORT. The scan list of START as the enabled entries in R160's order, START's and STOP's outcomes, the slots in
use, and the records of the configuration sequence (R160–R165). -/

namespace Sys2Proof.Machine

/-! ## The scan list -/

/-- R160: every entry, in the order of the scan list. -/
def entryOrder : List Entry :=
  ([0, 1, 2, 3, 4, 5, 6, 7] : List (Fin 8)).map Entry.analog ++ [.digitals] ++ [.rate] ++ [.count]

/-- R160, R161: the input of an entry is enabled. -/
def State.enabled (s : State) : Entry → Bool
  | .analog c => s.AEN.getLsbD c.val
  | .digitals => s.ENDO != Config.ENDO_NONE
  | .rate => s.REN
  | .count => s.CEN

theorem mem_entryOrder (e : Entry) : e ∈ entryOrder := by
  cases e with
  | analog c => revert c; decide
  | digitals | rate | count => decide

/-- R86, R160: the order of the scan list is that of the tags. -/
theorem entryOrder_ascending : entryOrder.Pairwise fun a b => a.tag.toNat < b.tag.toNat := by decide

/-- R160: `BuildScanList()` keeps the enabled entries of the order. -/
theorem State.scanList_eq_filter (s : State) : s.scanList = entryOrder.filter s.enabled := by
  have hanalog : s.analogOn.map Entry.analog =
      (([0, 1, 2, 3, 4, 5, 6, 7] : List (Fin 8)).map Entry.analog).filter s.enabled := by
    rw [List.filter_map]
    rfl
  simp only [State.scanList, entryOrder, List.filter_append, hanalog, List.filter_singleton, State.enabled,
    Bool.cond_eq_ite, bne_iff_ne]

theorem State.scanList_ascending (s : State) : s.scanList.Pairwise fun a b => a.tag.toNat < b.tag.toNat := by
  rw [s.scanList_eq_filter]
  exact entryOrder_ascending.filter _

theorem State.mem_scanList {s : State} {e : Entry} : e ∈ s.scanList ↔ s.enabled e = true := by
  rw [s.scanList_eq_filter, List.mem_filter]
  exact and_iff_right (mem_entryOrder e)

/-- R26: the enabled analog channels, counted. -/
theorem State.analogOn_length (s : State) :
    s.analogOn.length = (List.finRange 8).countP fun c => s.AEN.getLsbD c.val :=
  List.countP_eq_length_filter.symm

/-- R26: no more channels than inputs are enabled. -/
theorem State.analogOn_length_le (s : State) : s.analogOn.length ≤ s.NINPUTS := by
  unfold State.NINPUTS
  omega

/-- R33, R162: START stores the number of enabled inputs. -/
theorem State.loadSession_SL_LEN_toNat (s : State) : s.loadSession.SL_LEN.toNat = s.NINPUTS := by
  have hn := s.NINPUTS_le
  rw [State.loadSession_SL_LEN, s.scanList_length, BitVec.toNat_ofNat]
  omega

theorem State.loadSession_slots (s : State) : s.loadSession.slots = s.scanList := s.beginSession_slots

/-! ## The outcomes of START and STOP -/

/-- R162: a START taken with none held is behind the gate, with two more checks after it. -/
theorem execStart_of_taken {s : State} (hh : s.held = false) :
    exec .start s = gated s
      (if s.NINPUTS = 0 then .next (s.raise .noInputsConfigured)
      else if s.ENG = .fatal then .next (s.raise .engineFatal)
      else if s.ENG = .stopped then .next s.beginSession
      else .next { s with held := true }) := if_neg (by simp [hh])

/-- R162: the branches left to a START with SCAN = Idle and an input enabled. -/
theorem execStart_of_checked {s : State} (hh : s.held = false) (hs : s.SCAN = .idle) (hn : s.NINPUTS ≠ 0) :
    exec .start s =
      if s.ENG = .fatal then .next (s.raise .engineFatal)
      else if s.ENG = .stopped then .next s.beginSession
      else .next { s with held := true } := (execStart_of_taken hh).trans (gated_check_accepts hs hn)

/-- R162: a START that is ready begins a session. -/
theorem execStart_of_ready {s : State} (h : StartReady s) : exec .start s = .next s.beginSession := by
  obtain ⟨he, hc⟩ := h
  by_cases hh : s.held = true
  · exact (if_pos hh).trans (if_pos he)
  · obtain ⟨hs, hn⟩ := hc.resolve_left hh
    rw [← s.NINPUTS_eq_inputCount] at hn
    exact (execStart_of_checked (Bool.eq_false_iff.2 hh) hs hn).trans ((if_neg (by simp [he])).trans (if_pos he))

/-- R162: what a ready START leaves is the begun session. -/
theorem eq_beginSession_of_ready {s t : State} (h : StartReady s) (ht : exec .start s = .next t) :
    t = s.beginSession := by
  rw [execStart_of_ready h] at ht
  cases ht
  rfl

/-- R162: a held START waits while the Engine is not stopped. -/
theorem execStart_of_wait {s : State} (hh : s.held = true) (he : s.ENG ≠ .stopped) : exec .start s = .next s :=
  (if_pos hh).trans (if_neg he)

/-- R162: a held START goes on in the Host's turn. -/
theorem step_of_held {s : State} {ts : List Turn} (hh : s.held = true) (hts : s.turns = .host :: ts) :
    step s = exec .start { s with turns := ts } := (step_of_host hts).trans (if_pos hh)

/-- R164: STOP with SCAN = Idle. -/
theorem execStop_of_idle {s : State} (h : s.SCAN = .idle) : exec .stop s = .next (s.raise .notScanning) := if_pos h

/-- R164: STOP with SCAN = Scanning. -/
theorem execStop_of_scanning {s : State} (h : s.SCAN = .scanning) :
    exec .stop s = .next ({ s.emit [.stop] with SCAN := .idle }.respond .ok 0) := if_neg (by simp [h])

/-- R164: every STOP leaves SCAN Idle. -/
theorem idle_of_execStop {s t : State} (h : exec .stop s = .next t) : t.SCAN = .idle := by
  cases hs : s.SCAN with
  | idle =>
    rw [execStop_of_idle hs] at h
    cases h
    exact hs
  | scanning =>
    rw [execStop_of_scanning hs] at h
    cases h
    rfl

/-! ## The slots in use -/

/-- R33: a slot in use, read from the scan-list file. -/
theorem State.slots_getElem? {s : State} {i : Fin 11} (h : i.val < s.SL_LEN.toNat) :
    s.slots[i.val]? = some (s.SL.get i) := by
  unfold State.slots
  rw [List.getElem?_take_of_lt h, Vector.getElem?_toList, Vector.getElem?_eq_getElem i.isLt]
  rfl

theorem State.slots_getElem?_none {s : State} {k : Nat} (h : s.SL_LEN.toNat ≤ k) : s.slots[k]? = none :=
  List.getElem?_take_eq_none h

/-! ## The configuration sequence -/

/-- R163: the SLIST records from slot `lo` to `hi`, by their slot numbers. -/
theorem State.slistCmds_eq_map {s : State} {lo hi : Nat} (h : hi ≤ s.slots.length) :
    s.slistCmds lo hi = (List.range' lo (hi - lo)).map (slistRecord s) := by
  apply List.ext_getElem
  · simp [State.slistCmds, h]
  · intro k hk hk'
    have hslot : lo + k < s.slots.length := by
      rw [List.length_map, List.length_range'] at hk'
      omega
    simp [State.slistCmds, slistRecord, hslot]

/-! ## The obligations -/

/-- Settles O27: with no START held each check of the three is a branch of its own. -/
theorem startErrorsInOrder : Obligations.StartErrorsInOrder := by
  intro s hh
  rw [← s.NINPUTS_eq_inputCount]
  refine ⟨rfl, fun hs => ?_, fun hs hn => ?_, fun hs hn he => ?_⟩
  · exact (execStart_of_taken hh).trans (gated_scanning hs _)
  · exact (execStart_of_taken hh).trans (gated_check_refuses hs hn)
  · exact (execStart_of_checked hh hs hn).trans (if_pos he)

/-- Settles O9: a START past its checks is held, waits, and is ready once the Engine is stopped. -/
theorem startHoldsThroughADrain : Obligations.StartHoldsThroughADrain := by
  refine fun s ts => ⟨fun hh hs hn he hf => ?_, fun hh he hts => ?_, fun hh he hts => ?_⟩
  · rw [← s.NINPUTS_eq_inputCount] at hn
    exact (execStart_of_checked hh hs hn).trans ((if_neg hf).trans (if_neg he))
  · exact (step_of_held hh hts).trans (execStart_of_wait (s := { s with turns := ts }) hh he)
  · have hready : StartReady { s with turns := ts } := ⟨he, .inl hh⟩
    exact ⟨_, (step_of_held hh hts).trans (execStart_of_ready hready), by simp⟩

/-- Settles O28: the begun session is `State.beginSession`, and the records it appends are its configuration sequence. -/
theorem startBeginsASession : Obligations.StartBeginsASession := by
  intro s hready
  refine ⟨s.beginSession, s.loadSession.configSequence, execStart_of_ready hready, ?_⟩
  rw [← packetWords_eq, ← s.NINPUTS_eq_inputCount]
  rfl

/-- Settles O29: the slots in use are the scan list (`State.beginSession_slots`), which is the enabled entries in the
order of their tags. -/
theorem startBuildsTheScanList : Obligations.StartBuildsTheScanList := by
  intro s t hready ht
  obtain rfl := eq_beginSession_of_ready hready ht
  rw [State.beginSession_slots, ← s.NINPUTS_eq_inputCount]
  have hlen : s.beginSession.SL_LEN.toNat = s.NINPUTS := s.loadSession_SL_LEN_toNat
  have hdig : s.ENDO ≠ 127 ↔ s.DEN ≠ 0 := not_congr s.ENDO_eq_none
  refine ⟨hlen, s.scanList_length, s.scanList_ascending, fun _ => State.mem_scanList,
    State.mem_scanList.trans bne_iff_ne, hdig, State.mem_scanList, State.mem_scanList, fun i hi => ?_⟩
  rw [State.beginSession_SL, fillSlots_unused _ i (by rwa [s.scanList_length, ← hlen])]
  rfl

/-- Settles O30: the two runs of SLIST records are read by slot number (`State.slistCmds_eq_map`), the analog slots
being the first ones. -/
theorem startEmitsTheConfigSequence : Obligations.StartEmitsTheConfigSequence := by
  intro s t hready ht
  obtain rfl := eq_beginSession_of_ready hready ht
  have hslots : s.loadSession.slots.length = s.NINPUTS := by rw [s.loadSession_slots, s.scanList_length]
  have hanalog : s.loadSession.slistCmds 0 s.analogOn.length =
      (List.range s.analogOn.length).map (slistRecord s.beginSession) := by
    rw [State.slistCmds_eq_map (hslots ▸ s.analogOn_length_le), ← List.range_eq_range']
    rfl
  have hothers : s.loadSession.slistCmds s.analogOn.length s.loadSession.SL_LEN.toNat =
      (List.range' s.analogOn.length (s.beginSession.SL_LEN.toNat - s.analogOn.length)).map
        (slistRecord s.beginSession) :=
    State.slistCmds_eq_map (by rw [hslots, s.loadSession_SL_LEN_toNat])
  refine ⟨?_, fun c => ?_, rfl, ?_, rfl⟩
  · rw [State.beginSession_DEVQ, ← s.analogOn_length, ← hanalog, ← hothers, ← ite_not]
    simp only [State.configSequence, List.append_assoc]
    rfl
  · exact Nat.mod_eq_of_lt (by omega)
  · have hb := s.params.rateRangeCodeBase.isLt
    have hr := s.RRANGE.isLt
    exact Nat.mod_eq_of_lt (by omega)

/-- Settles O31: every STOP leaves SCAN Idle (`idle_of_execStop`), where the next one is refused. -/
theorem stopGoesIdleAndSendsStop : Obligations.StopGoesIdleAndSendsStop :=
  ⟨fun _ _ h => execStop_of_idle (idle_of_execStop h), fun _ => ⟨rfl, execStop_of_idle, execStop_of_scanning⟩⟩

/-- Settles O32: the slots in use are those below SL_LEN, and the answer is three fields placed from bit 0. -/
theorem rdslReadsASlot : Obligations.RdslReadsASlot := by
  refine ⟨fun idx s _ => ⟨encode_of_field (op := 0x22) rfl (by decide) rfl (by decide), fun hidx =>
    execRdsl_of_none (State.slots_getElem?_none hidx), fun i hi hlt => ?_⟩, Entry.analog_tag, rfl, rfl, rfl⟩
  have hslot : s.slots[idx.toNat]? = some (s.SL.get i) := hi ▸ State.slots_getElem? hlt
  have hhigh := field_read_high (s.sourceCode (s.SL.get i) ++ (0 : BitVec 12)) (s.SL.get i).tag (by decide)
  refine ⟨_, execRdsl_of_some hslot, field_read_low _ _ (by decide), ?_, ?_, field_read_above _ 24 (by decide)⟩
  · rw [← extract_extract (m := 28) (k := 0) _ (by decide), hhigh, extract_append_low]
  · rw [← extract_extract (lo := 4) (m := 28) (k := 12) _ (by decide), hhigh, extract_append_high]

end Sys2Proof.Machine
end

section
/-! SUPPORT. The invariant of Safety.lean, kept by each operation of the state, then by each command and each turn. -/

namespace Sys2Proof.Machine

/-- R31, R137: at most 1024 words. -/
theorem packetWords_le (code : BitVec 3) : packetWords code ≤ 1024 := by
  revert code
  decide

/-! ## The ports, the registers of configuration and the residual byte -/

section
variable {s : State} (h : s.Inv)
include h

theorem State.Inv.inputs (ts : List Turn) (ws : List CmdWord) :
    State.Inv { s with turns := ts, cmds := ws } := { h with }

theorem State.Inv.respond (st : Status) (d : Field56) : (s.respond st d).Inv := { h with }

theorem State.Inv.emit (ds : List DevCmd) : (s.emit ds).Inv := { h with }

theorem State.Inv.issueRead : s.issueRead.Inv := { h with }

theorem State.Inv.clearResidual : s.clearResidual.Inv := { h with drop_holds_nothing := fun _ => rfl }

/-- R201: a byte is kept with the carry policy only. -/
theorem State.Inv.keepResidual (hc : s.params.oddByte = .carry) (b : Byte) :
    State.Inv { s with RES_B := b, RES_V := true } :=
  { h with drop_holds_nothing := fun hd => by simp [hc] at hd }

theorem State.Inv.goIdle : State.Inv { s with SCAN := .idle } :=
  { h with
    scanning_runs := by simp
    held_checked := fun hh => ⟨rfl, (h.held_checked hh).2⟩ }

theorem State.Inv.hold (hs : s.SCAN = .idle) (hn : s.NINPUTS ≠ 0) : State.Inv { s with held := true } :=
  { h with held_checked := fun _ => ⟨hs, hn⟩ }

/-- R110: a mutator's write, no START being held. -/
theorem State.Inv.configWrite {u : State} (hu : ConfigWrite s u) (hh : s.held = false) : u.Inv := by
  rw [hu.frame]
  exact { h with
    rrange_legal := hu.rrange.elim (fun he => he ▸ h.rrange_legal) id
    srate_legal := hu.srate.elim (fun he => he ▸ h.srate_legal) .inr
    dec_legal := hu.dec.elim (fun he => he ▸ h.dec_legal) id
    held_checked := fun ht => by simp [hh] at ht }

/-! ## The buffer and the cursor -/

theorem State.Inv.dropBuffer : s.dropBuffer.Inv :=
  { h with
    blen_is_length := rfl
    blen_bound := Nat.zero_le _
    pos_le := Nat.le_refl _
    buffer_empty := fun _ => ⟨rfl, rfl⟩ }

/-- R34: at most 1024 packet words. -/
theorem State.Inv.snap_w_le : s.SNAP_W.toNat ≤ 1024 := by
  obtain ⟨code, hc⟩ := h.snap_w_legal
  rw [hc]
  exact packetWords_le code

/-- R39, R194: a chunk, with a residual byte before it or not, fits the 12 bits of BLEN. -/
theorem State.Inv.loadBuffer (he : s.ENG = .walk) {bs : List Byte} (hl : bs.length ≤ 2 * s.SNAP_W.toNat + 1) :
    (s.loadBuffer bs).Inv :=
  have hw := h.snap_w_le
  { h with
    blen_is_length := Nat.mod_eq_of_lt (by omega)
    blen_bound := hl
    pos_le := Nat.zero_le _
    buffer_empty := by simp [he] }

/-- R195: two bytes of the buffer are used, and the accumulator is written. -/
theorem State.Inv.useWord (he : s.ENG = .walk) (hp : s.POS.toNat + 2 ≤ s.BLEN.toNat) (a : Acc) :
    State.Inv { s with POS := s.POS + 2, ACC := a } :=
  { h with
    pos_le := by bv_omega
    buffer_empty := by simp [he] }

theorem State.Inv.setCursor {c : BitVec 4} (hc : c.toNat < s.SL_LEN.toNat) : State.Inv { s with CUR := c } :=
  { h with cursor_in_list := .inl hc }

/-- R36: the cursor names a slot while the Engine runs. -/
theorem State.Inv.cursor_lt (he : s.ENG ≠ .stopped) : s.CUR.toNat < s.SL_LEN.toNat := by
  have hpos := h.sl_len_pos he
  obtain hlt | ⟨-, hzero⟩ := h.cursor_in_list
  · exact hlt
  · simp [hzero] at hpos

/-! ## The Engine's control state -/

/-- R75: while no record waits, all have their answer. -/
theorem State.Inv.all_answered (he : s.ENG ≠ .waitConsumer) : s.recs.length = s.answers.length := by
  simpa [he] using h.answers_match

/-- R75: while a record waits, its answer is the one that is missing. -/
theorem State.Inv.all_answered_after (he : s.ENG = .waitConsumer) (c : Bool) :
    s.recs.length = (s.answers ++ [c]).length := by
  simpa [he] using h.answers_match

/-- R190: the running Engine goes to a state in which no record waits. -/
theorem State.Inv.setEng {e : Eng} {as : List Bool} (hs : s.ENG ≠ .stopped) (he : e ≠ .waitConsumer)
    (ha : s.recs.length = as.length) (hb : e = .stopped ∨ e = .top ∨ e = .readPending → s.BUF = [] ∧ s.POS = 0)
    (hr : s.SCAN = .scanning → e ≠ .stopped ∧ e ≠ .fatal) : State.Inv { s with ENG := e, answers := as } :=
  { h with
    sl_len_pos := fun _ => h.sl_len_pos hs
    buffer_empty := hb
    scanning_runs := hr
    out_presented := fun hw => absurd hw he
    answers_match := by simpa [he] using ha }

/-- R191, R193, R194: at its loop top and with a read in flight the Engine has an empty buffer to go on with. -/
theorem State.Inv.setEng_of_buffer_empty {e : Eng} (hs : s.ENG = .top ∨ s.ENG = .readPending) (he : e ≠ .waitConsumer)
    (hr : s.SCAN = .scanning → e ≠ .stopped ∧ e ≠ .fatal) : State.Inv { s with ENG := e } := by
  have hrun : s.ENG ≠ .stopped ∧ s.ENG ≠ .waitConsumer := by
    obtain hs | hs := hs <;> simp [hs]
  exact h.setEng hrun.1 he (h.all_answered hrun.2) (fun _ => h.buffer_empty (.inr hs)) hr

/-- R194: the read in flight is answered with a chunk. -/
theorem State.Inv.startWalk (he : s.ENG = .readPending) : State.Inv { s with ENG := .walk } :=
  h.setEng_of_buffer_empty (.inr he) (by decide) (by simp)

/-- R201: the walk ends with the buffer dropped. -/
theorem State.Inv.endWalk (he : s.ENG = .walk) : State.Inv { s.dropBuffer with ENG := .top } :=
  h.dropBuffer.setEng (by simp [he]) (by decide) (h.all_answered (by simp [he])) (fun _ => ⟨rfl, rfl⟩) (by simp)

/-- R200: the presented record is OUT, and it waits for its answer. -/
theorem State.Inv.emitRecord (he : s.ENG = .walk) : s.emitRecord.Inv :=
  have ha := h.all_answered (by simp [he])
  { h with
    sl_len_pos := fun _ => h.sl_len_pos (by simp [he])
    buffer_empty := by simp
    scanning_runs := by simp
    out_top_zero := s.record.pack_layout.top
    out_presented := by simp
    answers_match := by simpa using ha }

/-- R199: the cursor wraps and a record is emitted, or it goes on below SL_LEN. -/
theorem State.Inv.advance (he : s.ENG = .walk) : s.advance.Inv := by
  have hcur := h.cursor_lt (by simp [he])
  by_cases hw : s.CUR + 1 = s.SL_LEN
  · rw [State.advance_wrap hw]
    exact (h.setCursor (c := 0) (Nat.zero_lt_of_lt hcur)).emitRecord he
  · rw [State.advance_next hw]
    exact h.setCursor (by bv_omega)

theorem State.Inv.takeWord (he : s.ENG = .walk) (hp : s.POS.toNat + 2 ≤ s.BLEN.toNat) (e : Entry) (b0 b1 : Byte) :
    (s.takeWord e b0 b1).Inv := (h.useWord he hp _).advance he

/-! ## START and reset -/

/-- R140: the timeout of a session is in its bounds. -/
theorem State.Inv.timeout_bounds (hn : s.NINPUTS ≠ 0) :
    5000 ≤ decodeTimeoutMs s.SRATE.toNat (packetWords s.PSC) s.NINPUTS ∧
      decodeTimeoutMs s.SRATE.toNat (packetWords s.PSC) s.NINPUTS ≤ 33554 :=
  timeoutStaysInItsBounds _ _ _ (h.srate_legal.imp_left (congrArg BitVec.toNat)) (packetWords_le s.PSC)
    (Nat.one_le_iff_ne_zero.2 hn)

/-- R162: the session's scan list holds the enabled inputs, its snapshots are legal and its buffer is empty. -/
theorem State.Inv.loadSession (hn : s.NINPUTS ≠ 0) : s.loadSession.Inv := by
  have hlen := s.loadSession_SL_LEN_toNat
  have hpos : 0 < s.loadSession.SL_LEN.toNat := hlen ▸ Nat.pos_of_ne_zero hn
  have hw := packetWords_le s.PSC
  have hwords : s.loadSession.SNAP_W.toNat = packetWords s.PSC := Nat.mod_eq_of_lt (by omega)
  have htmo := h.timeout_bounds hn
  have htimeout : s.loadSession.SNAP_TMO.toNat = decodeTimeoutMs s.SRATE.toNat (packetWords s.PSC) s.NINPUTS :=
    Nat.mod_eq_of_lt (by omega)
  exact { h with
    snap_range_legal := h.rrange_legal
    snap_w_legal := ⟨s.PSC, hwords⟩
    snap_tmo_legal := htimeout ▸ htmo
    sl_len_le := hlen ▸ s.NINPUTS_le
    sl_len_pos := fun _ => hpos
    slots_ascending := s.loadSession_slots ▸ s.scanList_ascending
    unused_clear := fun i hi => fillSlots_unused _ i (by rwa [s.scanList_length, ← hlen])
    cursor_in_list := .inl hpos
    drop_holds_nothing := fun _ => rfl
    blen_is_length := rfl
    blen_bound := Nat.zero_le _
    pos_le := Nat.le_refl _
    buffer_empty := fun _ => ⟨rfl, rfl⟩ }

/-- R162: the stopped Engine is set going on a scan list. -/
theorem State.Inv.startEngine (he : s.ENG = .stopped) (hl : 1 ≤ s.SL_LEN.toNat) :
    State.Inv { s with SCAN := .scanning, ENG := .top, held := false } :=
  have ha := h.all_answered (by simp [he])
  { h with
    sl_len_pos := fun _ => hl
    buffer_empty := fun _ => h.buffer_empty (.inl he)
    scanning_runs := by simp
    out_presented := by simp
    answers_match := by simpa using ha
    held_checked := by simp }

theorem State.Inv.beginSession (he : s.ENG = .stopped) (hn : s.NINPUTS ≠ 0) : s.beginSession.Inv :=
  have hl : 1 ≤ s.loadSession.SL_LEN.toNat := s.loadSession_SL_LEN_toNat ▸ Nat.one_le_iff_ne_zero.2 hn
  (((h.loadSession hn).emit s.loadSession.configSequence).startEngine he hl).respond .ok 0

end

/-- R290, R291: the state after reset meets the invariant. -/
theorem State.reset_inv : State.reset.Inv where
  rrange_legal := by decide
  srate_legal := .inl rfl
  dec_legal := by decide
  snap_range_legal := by decide
  snap_w_legal := ⟨0, rfl⟩
  snap_tmo_legal := by decide
  sl_len_le := by decide
  sl_len_pos := fun he => absurd rfl he
  slots_ascending := .nil
  unused_clear := fun i _ => fillSlots_unused [] i (Nat.zero_le _)
  cursor_in_list := .inr ⟨rfl, rfl⟩
  drop_holds_nothing := fun _ => rfl
  blen_is_length := rfl
  blen_bound := Nat.zero_le _
  pos_le := Nat.le_refl _
  buffer_empty := fun _ => ⟨rfl, rfl⟩
  scanning_runs := by decide
  out_top_zero := by decide
  out_presented := by decide
  answers_match := rfl
  held_checked := by decide

/-- R290: it does so whatever the parameters and the inputs still to come. That reset leaves no record, no answer and no
held START is the model's choice (entries 5, 6 and 7 of the assumption log). -/
theorem State.reset_with_inputs_inv (p : Config.Params) (ts : List Turn) (ws : List CmdWord) :
    State.Inv { State.reset with params := p, turns := ts, cmds := ws } :=
  { State.reset_inv with drop_holds_nothing := fun _ => rfl }

/-! ## The commands and the turns -/

/-- A command that is taken keeps the invariant; it is taken only while no START is held. -/
theorem CommandEffect.inv {i : Instr} {s t : State} (ht : CommandEffect i s t) (h : s.Inv) (hh : s.held = false) :
    t.Inv := by
  cases ht with
  | error st => exact h.respond st 0
  | answer d => exact h.respond .ok d
  | config u d hu => exact (h.configWrite hu hh).respond .ok d
  | stop => exact (h.emit [.stop]).goIdle.respond .ok 0
  | hold _ _ hs hn => exact h.hold hs hn
  | wait => exact h
  | start _ he hc =>
    obtain ⟨-, hn⟩ := hc.resolve_left (by simp [hh])
    exact h.beginSession he hn

/-- R203: the forced stop clears the buffer and the residual byte and goes to Idle before it stops the Engine. -/
theorem State.Inv.forcedStop {s : State} (h : s.Inv) (he : s.ENG = .waitConsumer) :
    (s.answered false).forcedStop.Inv :=
  (h.emit [.stop]).dropBuffer.clearResidual.goIdle.setEng (e := .stopped) (by simp [he]) (by decide)
    (h.all_answered_after he false) (fun _ => ⟨rfl, rfl⟩) (by simp)

/-- A turn keeps the invariant. -/
theorem TurnEffect.inv {tn : Turn} {s t : State} (ht : TurnEffect tn s t) (h : s.Inv) : t.Inv := by
  cases ht with
  | pass => exact h
  | reset => exact State.reset_with_inputs_inv s.params s.turns s.cmds
  | illegal _ _ w ws => exact (h.inputs s.turns ws).respond .illegalCommand 0
  | command _ hh w ws _ i _ _ ht => exact ht.inv (h.inputs s.turns ws) hh
  | heldStart _ hh he => exact h.beginSession he (h.held_checked hh).2
  | exitLoop _ he hs => exact h.setEng_of_buffer_empty (.inl he) (by decide) (by simp [hs])
  | read _ he => exact h.issueRead.setEng_of_buffer_empty (.inl he) (by decide) (by simp)
  | emptyChunk _ he => exact h.setEng_of_buffer_empty (.inr he) (by decide) (by simp)
  | carriedChunk b _ he hl =>
    exact ((h.startWalk he).loadBuffer (bs := s.RES_B :: b) rfl (Nat.succ_le_succ hl)).clearResidual
  | chunk b _ he hl => exact (h.startWalk he).loadBuffer rfl (Nat.le_succ_of_le hl)
  | word _ he hp b0 b1 e => exact h.takeWord he hp e b0 b1
  | keepByte _ he _ hc b => exact (h.keepResidual hc b).endWalk he
  | endBuffer _ he => exact h.endWalk he
  | goOn _ he =>
    exact h.setEng (by simp [he]) (by decide) (h.all_answered_after he true) (by simp) (by simp)
  | forcedStop _ he => exact h.forcedStop he
  | fatal _ he hs =>
    exact h.setEng (by simp [he]) (by decide) (h.all_answered_after he false) (by simp) (by simp [hs])

/-- Settles O58: with no turn left the state stays, and every turn keeps the invariant. -/
theorem stepKeepsTheInvariant : Obligations.StepKeepsTheInvariant := by
  intro s t h hstep
  obtain ⟨-, rfl⟩ | ⟨tn, ts, -, ht⟩ := step_cases hstep
  · exact h
  · exact ht.inv (h.inputs ts s.cmds)

end Sys2Proof.Machine
end

section
/-! SUPPORT. An equation per outcome of the Engine's steps and of the Transport's and the Consumer's moves (R191–R205),
and the turns that pass. -/

namespace Sys2Proof.Machine

/-! ## The Engine -/

/-- R190: at its loop top the Engine takes R191. -/
theorem engineTurn_of_top {s : State} (he : s.ENG = .top) : engineTurn s = loopTop s := by
  unfold engineTurn
  rw [he]

/-- R190: in its walk, with fewer than two bytes left, the Engine ends the buffer. -/
theorem engineTurn_of_end {s : State} (he : s.ENG = .walk) (hp : s.BLEN.toNat < s.POS.toNat + 2) :
    engineTurn s = endOfBuffer s := by
  unfold engineTurn
  rw [he]
  exact if_pos hp

/-- R190: the control states in which the Engine has no step. -/
theorem engineTurn_of_no_step {s : State}
    (he : s.ENG = .readPending ∨ s.ENG = .waitConsumer ∨ s.ENG = .stopped ∨ s.ENG = .fatal) :
    engineTurn s = .next s := by
  unfold engineTurn
  obtain he | he | he | he := he <;> rw [he]

theorem loopTop_of_idle {s : State} (hs : s.SCAN = .idle) : loopTop s = .next { s with ENG := .stopped } := if_pos hs

theorem loopTop_of_scanning {s : State} (hs : s.SCAN = .scanning) :
    loopTop s = .next { s.issueRead with ENG := .readPending } := if_neg (by simp [hs])

/-- R201: under carry a lone byte becomes the residual byte. -/
theorem endOfBuffer_of_lone {s : State} {b : Byte} (hl : s.BLEN.toNat = s.POS.toNat + 1)
    (hc : s.params.oddByte = .carry) (hb : s.BUF[s.POS.toNat]? = some b) :
    endOfBuffer s = .next { { s with RES_B := b, RES_V := true }.dropBuffer with ENG := .top } := by
  unfold endOfBuffer
  rw [if_pos ⟨hl, hc⟩, hb]

/-- R201: with no lone byte, or under drop, the buffer only ends. -/
theorem endOfBuffer_of_rest {s : State} (h : ¬ (s.BLEN.toNat = s.POS.toNat + 1 ∧ s.params.oddByte = .carry)) :
    endOfBuffer s = .next { s.dropBuffer with ENG := .top } := if_neg h

/-! ## The Transport -/

/-- R6, R70: a step on the Transport's turn is that turn, taken off the list. -/
theorem step_of_transport {s : State} {ts : List Turn} {b : List Byte} (ht : s.turns = .transport b :: ts) :
    step s = transportTurn b { s with turns := ts } := by
  unfold step nextTurn
  rw [ht]
  rfl

/-- R190, R208: the Transport has a move: a read is in flight and the chunk is no longer than it asks for. -/
def State.Accepts (s : State) (b : List Byte) : Prop := s.ENG = .readPending ∧ b.length ≤ 2 * s.SNAP_W.toNat

theorem transportTurn_of_accepts {s : State} {b : List Byte} (h : s.Accepts b) :
    transportTurn b s = chunkArrival b s := if_pos h

theorem transportTurn_of_not_accepts {s : State} {b : List Byte} (h : ¬ s.Accepts b) :
    transportTurn b s = .next s := if_neg h

theorem chunkArrival_nil (s : State) : chunkArrival [] s = .next { s with ENG := .top } := rfl

/-- R194: under carry a held byte stands before the chunk. -/
theorem chunkArrival_of_carried {s : State} {b : List Byte} (hb : b ≠ []) (hc : s.params.oddByte = .carry)
    (hv : s.RES_V = true) :
    chunkArrival b s = .next { (s.loadBuffer (s.RES_B :: b)).clearResidual with ENG := .walk } :=
  (if_neg hb).trans (if_pos ⟨hc, hv⟩)

/-- R194: with no byte held, or under drop, the chunk stands by itself. -/
theorem chunkArrival_of_plain {s : State} {b : List Byte} (hb : b ≠ [])
    (h : ¬ (s.params.oddByte = .carry ∧ s.RES_V = true)) :
    chunkArrival b s = .next { s.loadBuffer b with ENG := .walk } := (if_neg hb).trans (if_neg h)

/-! ## The Consumer -/

/-- R6, R70: a step on the Consumer's turn is that turn, taken off the list. -/
theorem step_of_consumer {s : State} {ts : List Turn} {c : Bool} (ht : s.turns = .consumer c :: ts) :
    step s = consumerTurn c { s with turns := ts } := by
  unfold step nextTurn
  rw [ht]
  rfl

theorem consumerTurn_of_waiting {s : State} {c : Bool} (he : s.ENG = .waitConsumer) :
    consumerTurn c s = consumerAnswer c s := if_pos he

theorem consumerTurn_of_not_waiting {s : State} {c : Bool} (he : s.ENG ≠ .waitConsumer) :
    consumerTurn c s = .next s := if_neg he

theorem consumerAnswer_true (s : State) : consumerAnswer true s = .next { s.answered true with ENG := .walk } := rfl

theorem consumerAnswer_false (s : State) :
    consumerAnswer false s =
      if s.SCAN = .scanning then .next (s.answered false).forcedStop
      else .next { s.answered false with ENG := .fatal } := rfl

theorem consumerAnswer_false_of_scanning {s : State} (hs : s.SCAN = .scanning) :
    consumerAnswer false s = .next (s.answered false).forcedStop := (consumerAnswer_false s).trans (if_pos hs)

theorem consumerAnswer_false_of_idle {s : State} (hs : s.SCAN = .idle) :
    consumerAnswer false s = .next { s.answered false with ENG := .fatal } :=
  (consumerAnswer_false s).trans (if_neg (by simp [hs]))

/-- R203: everything the forced stop writes. -/
theorem State.forcedStop_eq (s : State) :
    s.forcedStop =
      { s with
        DEVQ := s.DEVQ ++ [.stop], SCAN := .idle, BUF := [], BLEN := 0, POS := 0, RES_V := false, RES_B := 0
        ENG := .stopped } := by
  simp only [State.forcedStop, State.emit, State.dropBuffer, State.clearResidual]

/-! ## The obligations -/

/-- Settles O39: the Engine's turn is its loop top, which tests SCAN. -/
theorem loopTopTestsScan : Obligations.LoopTopTestsScan := by
  intro s ts hts he
  have hstep : step s = loopTop { s with turns := ts } := (step_of_engine hts).trans (engineTurn_of_top he)
  exact ⟨fun hs => hstep.trans (loopTop_of_idle hs), fun hs => hstep.trans (loopTop_of_scanning hs)⟩

/-- Settles O40: the Transport's turn is the arrival of its chunk. -/
theorem chunkArrivalReassemblesBytes : Obligations.ChunkArrivalReassemblesBytes := by
  intro s ts b hts he hl
  have hstep : step s = chunkArrival b { s with turns := ts } :=
    (step_of_transport hts).trans (transportTurn_of_accepts ⟨he, hl⟩)
  refine ⟨fun hb => ?_, fun hb hc hv => hstep.trans (chunkArrival_of_carried hb hc hv), fun hb hd => ?_⟩
  · subst hb
    exact hstep.trans (chunkArrival_nil _)
  · have hplain : ¬ (s.params.oddByte = .carry ∧ s.RES_V = true) := by
      rintro ⟨hc, hv⟩
      simp [hc, hv] at hd
    exact hstep.trans (chunkArrival_of_plain hb hplain)

/-- Settles O41: each agent's turn passes where its move is not enabled (entry 2 of the assumption log). -/
theorem turnWithNoMovePasses : Obligations.TurnWithNoMovePasses := by
  rintro s t ts hts (⟨b, rfl, hb⟩ | ⟨c, rfl, hc⟩ | ⟨rfl, he⟩)
  · have hno : ¬ State.Accepts { s with turns := ts } b := by
      rintro ⟨he, hl⟩
      exact hb.elim (· he) (Nat.not_lt.2 hl)
    exact (step_of_transport hts).trans (transportTurn_of_not_accepts hno)
  · exact (step_of_consumer hts).trans (consumerTurn_of_not_waiting hc)
  · exact (step_of_engine hts).trans (engineTurn_of_no_step he)

/-- Settles O43: the cursor wraps, and the record is that of the updated accumulator (the cursor and POS are no part of
a record). -/
theorem wordStepClosesAPass : Obligations.WordStepClosesAPass := by
  intro s ts b0 b1 j hts he hp h0 h1 hj hcur
  exact ⟨_, rfl, (step_takeWord hts he hp h0 h1 hj).trans (congrArg Host.Outcome.next (State.advance_wrap hcur))⟩

/-- Settles O44: the Engine's turn is the end of the buffer, with a lone byte or without. -/
theorem endOfBufferKeepsTheOddByte : Obligations.EndOfBufferKeepsTheOddByte := by
  intro s ts hts he hp
  have hstep : step s = endOfBuffer { s with turns := ts } := (step_of_engine hts).trans (engineTurn_of_end he hp)
  refine ⟨fun b hl hc hb => hstep.trans (endOfBuffer_of_lone hl hc hb), fun hd => ?_⟩
  have hrest : ¬ (s.BLEN.toNat = s.POS.toNat + 1 ∧ s.params.oddByte = .carry) := by
    rintro ⟨hl, hc⟩
    simp [hl, hc] at hd
  exact hstep.trans (endOfBuffer_of_rest hrest)

/-- Settles O45: the Consumer's turn is its answer, and an answer 0 is judged by SCAN. -/
theorem consumerAnswerOutcomes : Obligations.ConsumerAnswerOutcomes := by
  intro s ts c hts he
  have hstep : step s = consumerAnswer c { s with turns := ts } :=
    (step_of_consumer hts).trans (consumerTurn_of_waiting he)
  refine ⟨fun hc => ?_, fun hc hs => ?_, fun hc hs => ?_⟩ <;> subst hc
  · exact hstep.trans (consumerAnswer_true _)
  · rw [hstep, consumerAnswer_false_of_scanning (s := { s with turns := ts }) hs,
      State.forcedStop_eq]
    rfl
  · exact hstep.trans (consumerAnswer_false_of_idle hs)

end Sys2Proof.Machine
end

section
/-! SUPPORT. The record that a pass closes with (R209), field by field; the Engine in STOPPED and FATAL, which only a
START and a reset move (R205, R207); and a next state for every turn under the invariant (R206). -/

namespace Sys2Proof.Machine

/-! ## The record of a pass -/

/-- R209: a field is present when the scan list holds its entry. -/
theorem State.fieldOf_isSome {w : Nat} (s : State) (e : Entry) (v : BitVec w) :
    (s.fieldOf e v).isSome = decide (e ∈ s.slots) := by
  by_cases h : e ∈ s.slots <;> simp [State.fieldOf, State.inList, h]

/-- R209: the value bits of a field are 0 when it is absent. -/
theorem State.fieldBits_fieldOf {w : Nat} (s : State) (e : Entry) (v : BitVec w) :
    fieldBits (s.fieldOf e v) = if e ∈ s.slots then v else 0 := by
  by_cases h : e ∈ s.slots <;> simp [State.fieldOf, State.inList, fieldBits, h]

/-- R209: the analog fields of a record. -/
theorem State.record_A_get (s : State) (c : Fin 8) :
    s.record.A.get c = s.fieldOf (.analog c) (s.ACC.A.get c) := by
  fin_cases c <;> rfl

/-- Settles O38: each bit range of the layout, with the presence and the value of the field that stands there. -/
theorem recordBusLayout : Obligations.RecordBusLayout := by
  intro s
  have h := s.record.pack_layout
  refine ⟨h.PKTNO, h.RANGE, h.top, fun c => ⟨?_, ?_⟩, ?_, ?_, ?_, ?_, ?_, ?_⟩
  · rw [getLsbD_of_presenceBit (h.analogPresence c), s.record_A_get, s.fieldOf_isSome]
  · rw [h.analogValue c, s.record_A_get, s.fieldBits_fieldOf]
  · exact (getLsbD_of_presenceBit h.PD).trans (s.fieldOf_isSome _ _)
  · exact h.DIG.trans (s.fieldBits_fieldOf _ _)
  · exact (getLsbD_of_presenceBit h.PR).trans (s.fieldOf_isSome _ _)
  · exact h.RT.trans (s.fieldBits_fieldOf _ _)
  · exact (getLsbD_of_presenceBit h.PC).trans (s.fieldOf_isSome _ _)
  · exact h.CT.trans (s.fieldBits_fieldOf _ _)

/-! ## The Engine at rest -/

/-- R205, R207: in STOPPED and in FATAL no turn but the Host's and reset does anything. -/
theorem TurnEffect.eq_of_engine_at_rest {tn : Turn} {s t : State} (hr : tn ≠ .reset) (hh : tn ≠ .host)
    (h : TurnEffect tn s t) (he : s.ENG = .stopped ∨ s.ENG = .fatal) : t = s := by
  cases h with
  | pass => rfl
  | reset h => exact absurd h hr
  | illegal h | command h | heldStart h => exact absurd h hh
  | exitLoop _ hw | read _ hw | emptyChunk _ hw | carriedChunk _ _ hw | chunk _ _ hw | word _ hw | keepByte _ hw
  | endBuffer _ hw | goOn _ hw | forcedStop _ hw | fatal _ hw => simp [hw] at he

/-- R205, R207: from STOPPED or FATAL a step but reset begins a session or leaves the decoder alone. -/
theorem beginsSession_or_sameDecoder_of_engine_at_rest {s t : State} (hr : NoResetNext s) (h : step s = .next t)
    (he : s.ENG = .stopped ∨ s.ENG = .fatal) : BeginsSession s t ∨ SameDecoder s t := by
  obtain rfl | ⟨ts, hts, ht⟩ | ⟨tn, ts, -, htn, hh, ht⟩ := step_cases_of_noReset hr h
  · exact .inr (by constructor <;> rfl)
  · exact (ht.host_cases hts).imp_right And.left
  · obtain rfl := ht.eq_of_engine_at_rest htn hh he
    exact .inr (by constructor <;> rfl)

/-- Settles O55: a session begins on a stopped Engine only, so in FATAL the decoder stays. -/
theorem fatalIsStickyUntilReset : Obligations.FatalIsStickyUntilReset := by
  intro s t hr he h
  obtain hb | hd := beginsSession_or_sameDecoder_of_engine_at_rest hr h (.inr he)
  · exact absurd hb.stopped (by simp [he])
  · exact ⟨hd.ENG.trans he, hd.recs, hd.reads, hd.answers, hd.sameSession, hd.PKT, hd.CUR, hd.ACC, hd.BUF, hd.BLEN,
      hd.POS, hd.RES_V, hd.RES_B, hd.OUT⟩

/-- Settles O56: a step that leaves the decoder alone leaves STOPPED, so the other one begins a session. -/
theorem onlyStartLeavesStopped : Obligations.OnlyStartLeavesStopped := by
  intro s t hr he h hne
  obtain hb | hd := beginsSession_or_sameDecoder_of_engine_at_rest hr h (.inl he)
  · exact ⟨hb.takesStart, hb.top, hb.scanning⟩
  · exact absurd (hd.ENG.trans he) hne

/-! ## A next state for every turn -/

theorem runWord_answersNext (w : CmdWord) (s : State) : AnswersNext (runWord w s) := by
  cases hd : decode w with
  | ok i => exact runWord_of_decode_ok hd s ▸ exec_answersNext i s
  | error r => exact runWord_of_decode_error hd s ▸ .next _

theorem hostTurn_answersNext (s : State) : AnswersNext (hostTurn s) := by
  refine .ite (exec_answersNext .start s) ?_
  cases s.cmds with
  | nil => exact .next s
  | cons w ws => exact runWord_answersNext w _

theorem transportTurn_answersNext (b : List Byte) (s : State) : AnswersNext (transportTurn b s) :=
  .ite (.ite (.next _) (.ite (.next _) (.next _))) (.next _)

theorem consumerTurn_answersNext (c : Bool) (s : State) : AnswersNext (consumerTurn c s) :=
  .ite (.ite (.next _) (.ite (.next _) (.next _))) (.next _)

section
variable {s : State} (h : s.Inv)
include h

/-- R39: the buffer holds every byte below BLEN. -/
theorem State.Inv.byte_at {i : Nat} (hi : i < s.BLEN.toNat) : ∃ b, s.BUF[i]? = some b := by
  rw [h.blen_is_length] at hi
  exact ⟨_, List.getElem?_eq_getElem hi⟩

/-- R36: while the Engine runs the cursor names an entry of the scan list. -/
theorem State.Inv.entry_at (he : s.ENG ≠ .stopped) :
    ∃ e, s.SL[s.CUR.toNat]? = some e ∧ s.slots[s.CUR.toNat]? = some e := by
  have hcur := h.cursor_lt he
  have hlen : s.CUR.toNat < 11 := Nat.lt_of_lt_of_le hcur h.sl_len_le
  exact ⟨_, slot_at (j := ⟨_, hlen⟩) rfl, State.slots_getElem? (i := ⟨_, hlen⟩) hcur⟩

theorem State.Inv.wordStep_answersNext (he : s.ENG = .walk) (hp : s.POS.toNat + 2 ≤ s.BLEN.toNat) :
    AnswersNext (wordStep s) := by
  obtain ⟨b0, h0⟩ := h.byte_at (i := s.POS.toNat) (by omega)
  obtain ⟨b1, h1⟩ := h.byte_at (i := s.POS.toNat + 1) (by omega)
  obtain ⟨e, hs, -⟩ := h.entry_at (by simp [he])
  exact wordStep_of_bytes h0 h1 hs ▸ .next _

theorem State.Inv.endOfBuffer_answersNext : AnswersNext (endOfBuffer s) := by
  by_cases hc : s.BLEN.toNat = s.POS.toNat + 1 ∧ s.params.oddByte = .carry
  · obtain ⟨b, hb⟩ := h.byte_at (i := s.POS.toNat) (by omega)
    exact endOfBuffer_of_lone hc.1 hc.2 hb ▸ .next _
  · exact endOfBuffer_of_rest hc ▸ .next _

/-- R60: under the invariant the Engine reads only bytes and slots that exist. -/
theorem State.Inv.engineTurn_answersNext : AnswersNext (engineTurn s) := by
  cases he : s.ENG with
  | top => exact engineTurn_of_top he ▸ .ite (.next _) (.next _)
  | walk =>
    by_cases hp : s.BLEN.toNat < s.POS.toNat + 2
    · exact engineTurn_of_end he hp ▸ h.endOfBuffer_answersNext
    · exact engineTurn_of_walk he (Nat.not_lt.1 hp) ▸ h.wordStep_answersNext he (Nat.not_lt.1 hp)
  | stopped | readPending | waitConsumer | fatal => exact engineTurn_of_no_step (s := s) (by simp [he]) ▸ .next _

end

/-- Settles O59: no turn stops, the Engine's because the invariant excludes both faults (entry 8 of the assumption
log). -/
theorem noStopUnderTheInvariant : Obligations.NoStopUnderTheInvariant := by
  intro s h
  show AnswersNext (nextTurn s)
  unfold nextTurn
  split
  · exact .next s
  · next tn ts _ =>
    cases tn with
    | host => exact hostTurn_answersNext _
    | engine => exact (h.inputs ts s.cmds).engineTurn_answersNext
    | transport b => exact transportTurn_answersNext b _
    | consumer c => exact consumerTurn_answersNext c _
    | reset => exact .next _

end Sys2Proof.Machine
end

section
/-! SUPPORT. The words of a byte stream (R61), and the record of a pass as the record read from those words (R209,
R210). -/

namespace Sys2Proof.Machine

/-- R61: the two bytes after an even number of them form the next word. -/
theorem wordsOf_getElem? {b0 b1 : Byte} {rest : List Byte} :
    ∀ {m : Nat} {used : List Byte}, used.length = 2 * m →
      (wordsOf (used ++ b0 :: b1 :: rest))[m]? = some (wordOf b0 b1)
  | 0, [], _ => rfl
  | m + 1, _ :: _ :: used, h => wordsOf_getElem? (m := m) (used := used) (by simp only [List.length_cons] at h; omega)
  | m + 1, [_], h => by simp only [List.length_singleton] at h; omega

/-- R198: the accumulator's field of an entry has the value that the word w gives it. -/
def Acc.Holds (a : Acc) (w : StreamWord) : Entry → Prop
  | .analog c => a.A.get c = w
  | .digitals => a.D = highByte w
  | .rate => a.RT = w
  | .count => a.CT = w

theorem Acc.holds_update (a : Acc) (e : Entry) (w : StreamWord) : (a.update e w).Holds w e := by
  cases e with
  | analog c => exact (a.update_A _ w c).trans (if_pos rfl)
  | digitals | rate | count => rfl

/-- R198: the word of another entry leaves the field. -/
theorem Acc.Holds.update {a : Acc} {e e' : Entry} {w : StreamWord} (h : a.Holds w e) (hne : e' ≠ e) (w' : StreamWord) :
    (a.update e' w').Holds w e := by
  cases e with
  | analog c => exact (a.update_A e' w' c).trans ((if_neg hne).trans h)
  | digitals => exact (a.update_D e' w').trans ((if_neg hne).trans h)
  | rate => exact (a.update_RT e' w').trans ((if_neg hne).trans h)
  | count => exact (a.update_CT e' w').trans ((if_neg hne).trans h)

/-- R210: the accumulator holds the words of pass k for the first c slots of the scan list. -/
def State.PassHolds (s : State) (ws : List StreamWord) (k c : Nat) : Prop :=
  ∀ i e, i < c → s.slots[i]? = some e → ∃ w, ws[k * s.slots.length + i]? = some w ∧ s.ACC.Holds w e

/-- R160: no entry stands in two slots in use. -/
theorem State.Inv.entry_ne {s : State} (h : s.Inv) {i j : Nat} {e e' : Entry} (hij : i < j) (hi : s.slots[i]? = some e)
    (hj : s.slots[j]? = some e') : e' ≠ e := by
  rintro rfl
  obtain ⟨hil, hi⟩ := List.getElem?_eq_some_iff.1 hi
  obtain ⟨hjl, hj⟩ := List.getElem?_eq_some_iff.1 hj
  have htag := List.pairwise_iff_getElem.1 h.slots_ascending i j hil hjl hij
  rw [hi, hj] at htag
  exact Nat.lt_irrefl _ htag

/-- R198: the word of the next slot is taken into the pass, since its entry is none of those before. -/
theorem State.PassHolds.update {s : State} {ws : List StreamWord} {k c : Nat} {e : Entry} {w : StreamWord}
    (h : s.PassHolds ws k c) (hinv : s.Inv) (he : s.slots[c]? = some e) (hw : ws[k * s.slots.length + c]? = some w) :
    State.PassHolds { s with ACC := s.ACC.update e w } ws k (c + 1) := by
  intro i e' hi hslot
  obtain hlt | rfl := Nat.lt_succ_iff_lt_or_eq.1 hi
  · obtain ⟨w', hw', hold⟩ := h i e' hlt hslot
    exact ⟨w', hw', hold.update (hinv.entry_ne hlt hslot he) w⟩
  · obtain rfl : e = e' := Option.some.inj (he.symm.trans hslot)
    exact ⟨w, hw, s.ACC.holds_update e w⟩

/-- R209, R210: a field of the record is the stream's word for its entry, when it was written with that word. -/
theorem State.fieldOf_eq_wordFor {n : Nat} {s : State} {ws : List StreamWord} {k : Nat} {e : Entry}
    (f : StreamWord → BitVec n) {v : BitVec n}
    (h : ∀ i, s.slots[i]? = some e → ∃ w, ws[k * s.slots.length + i]? = some w ∧ v = f w) :
    s.fieldOf e v = (wordFor s.slots ws k e).map f := by
  unfold wordFor
  cases hidx : s.slots.idxOf? e with
  | none => simp [State.fieldOf, State.inList, List.idxOf?_eq_none_iff.1 hidx]
  | some i =>
    obtain ⟨hi, he, -⟩ := List.idxOf?_eq_some_iff.1 hidx
    obtain ⟨w, hw, rfl⟩ := h i (List.getElem?_eq_some_iff.2 ⟨hi, he⟩)
    have hmem : e ∈ s.slots := he ▸ List.getElem_mem hi
    simp [State.fieldOf, State.inList, hmem, hw]

/-- R209, R210: the record of a whole pass is the one read from the stream. -/
theorem State.record_eq_streamRecord {s : State} {ws : List StreamWord} {k : Nat}
    (h : s.PassHolds ws k s.slots.length) (hp : s.PKT = BitVec.ofNat 64 k) :
    s.record = streamRecord s.slots s.SNAP_RANGE ws k := by
  have hpass (e : Entry) (i : Nat) (hi : s.slots[i]? = some e) :
      ∃ w, ws[k * s.slots.length + i]? = some w ∧ s.ACC.Holds w e :=
    h i e (List.getElem?_eq_some_iff.1 hi).1 hi
  have hA (c : Fin 8) : s.fieldOf (.analog c) (s.ACC.A.get c) = wordFor s.slots ws k (.analog c) :=
    (State.fieldOf_eq_wordFor id (hpass (.analog c))).trans Option.map_id_apply
  have hD : s.fieldOf .digitals s.ACC.D = (wordFor s.slots ws k .digitals).map highByte :=
    State.fieldOf_eq_wordFor highByte (hpass .digitals)
  have hRT : s.fieldOf .rate s.ACC.RT = wordFor s.slots ws k .rate :=
    (State.fieldOf_eq_wordFor id (hpass .rate)).trans Option.map_id_apply
  have hCT : s.fieldOf .count s.ACC.CT = wordFor s.slots ws k .count :=
    (State.fieldOf_eq_wordFor id (hpass .count)).trans Option.map_id_apply
  unfold State.record streamRecord
  simp only [hA, hD, hRT, hCT, hp]

end Sys2Proof.Machine
end

section
/-! SUPPORT. What a step does to the parameters, to the turns and command words still to come and to a held START, so
that one session stays one session (R210). -/

namespace Sys2Proof.Machine

/-- The parameters and the turns of s stay in t, and t has no command word that s has not. -/
structure InputsGoOn (s t : State) : Prop where
  params : t.params = s.params
  turns : t.turns = s.turns
  cmds : t.cmds ⊆ s.cmds

theorem InputsGoOn.beginSession (s : State) : InputsGoOn s s.beginSession := ⟨by simp, by simp, by simp⟩

theorem ConfigWrite.inputs {s u : State} (h : ConfigWrite s u) : InputsGoOn s u := by
  rw [h.frame]
  exact ⟨rfl, rfl, .refl _⟩

theorem ConfigWrite.held {s u : State} (h : ConfigWrite s u) : u.held = s.held := by
  rw [h.frame]

/-- R195–R200: the registers that a word step may write. -/
theorem State.takeWord_frame (s : State) (e : Entry) (b0 b1 : Byte) :
    s.takeWord e b0 b1 =
      { s with
        POS := s.POS + 2, ACC := s.ACC.update e (wordOf b0 b1), CUR := (s.takeWord e b0 b1).CUR
        OUT := (s.takeWord e b0 b1).OUT, PKT := (s.takeWord e b0 b1).PKT, recs := (s.takeWord e b0 b1).recs
        ENG := (s.takeWord e b0 b1).ENG } := by
  unfold State.takeWord State.advance
  split <;> rfl

theorem InputsGoOn.takeWord (s : State) (e : Entry) (b0 b1 : Byte) : InputsGoOn s (s.takeWord e b0 b1) := by
  rw [State.takeWord_frame]
  exact ⟨rfl, rfl, .refl _⟩

theorem State.takeWord_held (s : State) (e : Entry) (b0 b1 : Byte) : (s.takeWord e b0 b1).held = s.held := by
  rw [State.takeWord_frame]

theorem CommandEffect.inputs {i : Instr} {s t : State} (h : CommandEffect i s t) : InputsGoOn s t := by
  cases h with
  | config u d h => exact { h.inputs with }
  | start => exact .beginSession s
  | error | answer | stop | hold | wait => exact ⟨rfl, rfl, .refl _⟩

/-- R162: only a START writes the bit of a held START. -/
theorem CommandEffect.held {i : Instr} {s t : State} (h : CommandEffect i s t) : i = .start ∨ t.held = s.held := by
  cases h with
  | config u d h => exact .inr h.held
  | hold hi | wait hi | start hi => exact .inl hi
  | error | answer | stop => exact .inr rfl

theorem TurnEffect.inputs {tn : Turn} {s t : State} (h : TurnEffect tn s t) : InputsGoOn s t := by
  cases h with
  | illegal _ _ w ws hc => exact ⟨rfl, rfl, hc ▸ List.subset_cons_self w ws⟩
  | command _ _ w ws hc i _ _ ht =>
    have hin := ht.inputs
    exact ⟨hin.params, hin.turns, List.Subset.trans hin.cmds (hc ▸ List.subset_cons_self w ws)⟩
  | heldStart => exact .beginSession s
  | word _ _ _ b0 b1 e => exact .takeWord s e b0 b1
  | forcedStop => exact ⟨by simp, by simp, by simp⟩
  | pass | reset | exitLoop | read | emptyChunk | carriedChunk | chunk | keepByte | endBuffer | goOn | fatal =>
    exact ⟨rfl, rfl, .refl _⟩

/-- R162: with none held and no START among the words, no START comes to be held. -/
theorem TurnEffect.not_held {tn : Turn} {s t : State} (h : TurnEffect tn s t) (hh : s.held = false)
    (hc : ∀ w ∈ s.cmds, decode w ≠ .ok .start) : t.held = false := by
  cases h with
  | command _ _ w ws hw i hd _ ht =>
    refine (ht.held.resolve_left ?_).trans hh
    rintro rfl
    exact hc w (hw ▸ List.mem_cons_self) hd
  | reset => rfl
  | heldStart => exact State.beginSession_held s
  | word => exact (State.takeWord_held ..).trans hh
  | forcedStop => exact (State.forcedStop_held _).trans hh
  | pass | illegal | exitLoop | read | emptyChunk | carriedChunk | chunk | keepByte | endBuffer | goOn | fatal =>
    exact hh

/-- The parameters are written by no step (R8). -/
theorem step_params {s t : State} (h : step s = .next t) : t.params = s.params := by
  obtain ⟨-, rfl⟩ | ⟨tn, ts, -, ht⟩ := step_cases h
  · rfl
  · exact ht.inputs.params

/-- R210: what the agents have still to do gets no new entry, so it stays free of resets, answers 0 and STARTs. -/
theorem State.OneSession.step {s t : State} (hone : s.OneSession) (h : step s = .next t) : t.OneSession := by
  obtain ⟨-, rfl⟩ | ⟨tn, ts, hts, ht⟩ := step_cases h
  · exact hone
  · obtain ⟨hreset, hstop, hheld, hcmds⟩ := hone
    have hin := ht.inputs
    have hturns : t.turns ⊆ s.turns := by
      rw [hin.turns, hts]
      exact List.subset_cons_self tn ts
    exact ⟨fun hm => hreset (hturns hm), fun hm => hstop (hturns hm), ht.not_held hheld hcmds,
      fun w hw => hcmds w (hin.cmds hw)⟩

/-- R210: no step of a single session begins another one. -/
theorem State.OneSession.not_takesStart {s : State} (h : s.OneSession) : ¬ TakesStart s := by
  obtain ⟨-, -, hheld, hcmds⟩ := h
  rintro (⟨-, hh⟩ | ⟨-, -, w, ws, hc, hd⟩)
  · simp [hheld] at hh
  · exact hcmds w (hc ▸ List.mem_cons_self) hd

end Sys2Proof.Machine
end

section
/-! SUPPORT. The stream-position law (R210): the bytes delivered and not yet formed into words, what a step does to them
and to the pass, and the induction over a run. -/

namespace Sys2Proof.Machine

/-! ## The bytes not yet formed into words -/

/-- The stream bytes delivered and not yet formed into a word, oldest first: a residual byte, then the rest of the
buffer. -/
def State.pending (s : State) : List Byte := (if s.RES_V then [s.RES_B] else []) ++ s.BUF.drop s.POS.toNat

theorem State.pending_length (s : State) : s.pending.length = s.bytesLeft := by
  unfold State.pending State.bytesLeft bit
  rw [List.length_append, List.length_drop, Nat.add_comm]
  split <;> rfl

theorem State.pending_of_no_residual {s : State} (h : s.RES_V = false) : s.pending = s.BUF.drop s.POS.toNat := by
  simp [State.pending, h]

/-- What reassembly rests on: the invariant under carry, and a residual byte held only with an empty buffer, so that it
is the oldest byte left. -/
structure State.Reassembles (s : State) : Prop where
  inv : s.Inv
  carry : s.params.oddByte = .carry
  residual : s.RES_V = true → s.BUF = []

theorem State.Reassembles.setTurns {s : State} (h : s.Reassembles) (ts : List Turn) :
    State.Reassembles { s with turns := ts } := { h with inv := h.inv.inputs ts s.cmds }

theorem State.Reassembles.no_residual {s : State} (h : s.Reassembles) (hb : s.BUF ≠ []) : s.RES_V = false :=
  Bool.eq_false_iff.2 fun hv => hb (h.residual hv)

/-- The step from s to t adds the bytes b to those left, and decodes nothing. -/
structure Buffers (s : State) (b : List Byte) (t : State) : Prop where
  session : SameSession s t
  CUR : t.CUR = s.CUR
  ACC : t.ACC = s.ACC
  PKT : t.PKT = s.PKT
  recs : t.recs = s.recs
  pending : t.pending = s.pending ++ b
  residual : t.RES_V = true → t.BUF = []

/-- The step from s to t forms a word from the two oldest bytes left and takes it for the entry under the cursor. -/
structure FormsWord (s : State) (e : Entry) (b0 b1 : Byte) (t : State) : Prop where
  entry : s.slots[s.CUR.toNat]? = some e
  eq : t = s.takeWord e b0 b1
  pending : s.pending = b0 :: b1 :: t.pending
  residual : t.RES_V = true → t.BUF = []

/-- The decoder is left alone, and with it the bytes left. -/
theorem SameDecoder.buffers {s t : State} (hd : SameDecoder s t) (h : s.Reassembles) : Buffers s [] t where
  session := hd.sameSession
  CUR := hd.CUR
  ACC := hd.ACC
  PKT := hd.PKT
  recs := hd.recs
  pending := by simp only [State.pending, hd.RES_V, hd.RES_B, hd.BUF, hd.POS, List.append_nil]
  residual := by
    rw [hd.RES_V, hd.BUF]
    exact h.residual

/-- A step that writes no more than ENG and the logs of reads and answers leaves the bytes as they are. -/
theorem State.Reassembles.buffers_setEng {s : State} (h : s.Reassembles) (e : Eng) (rs : List ReadReq)
    (as : List Bool) : Buffers s [] { s with ENG := e, reads := rs, answers := as } where
  session := .refl s
  CUR := rfl
  ACC := rfl
  PKT := rfl
  recs := rfl
  pending := (List.append_nil _).symm
  residual := h.residual

/-! ## The turns -/

/-- R193, R194: the chunk's bytes come after those left, of which the buffer has none. -/
theorem chunkArrival_buffers {s t : State} {b : List Byte} (h : s.Reassembles) (he : s.ENG = .readPending)
    (ht : chunkArrival b s = .next t) : Buffers s b t := by
  obtain ⟨hbuf, -⟩ := h.inv.buffer_empty (.inr (.inr he))
  by_cases hb : b = []
  · subst hb
    cases ht
    exact h.buffers_setEng .top s.reads s.answers
  · by_cases hv : s.RES_V = true
    · rw [chunkArrival_of_carried hb h.carry hv] at ht
      cases ht
      exact ⟨.refl s, rfl, rfl, rfl, rfl, by simp [State.pending, hv, hbuf], by simp⟩
    · rw [chunkArrival_of_plain hb (fun hc => hv hc.2)] at ht
      cases ht
      exact ⟨.refl s, rfl, rfl, rfl, rfl, by simp [State.pending, hv, hbuf], by simp [hv]⟩

/-- R195: the word step uses the two bytes at POS, which are the oldest left. -/
theorem State.Reassembles.formsWord {s : State} (h : s.Reassembles) {e : Entry} {b0 b1 : Byte} (he : s.ENG = .walk)
    (h0 : s.BUF[s.POS.toNat]? = some b0) (h1 : s.BUF[s.POS.toNat + 1]? = some b1)
    (hs : s.SL[s.CUR.toNat]? = some e) (hp : s.POS.toNat + 2 ≤ s.BLEN.toNat) :
    FormsWord s e b0 b1 (s.takeWord e b0 b1) := by
  obtain ⟨hl0, hb0⟩ := List.getElem?_eq_some_iff.1 h0
  obtain ⟨hl1, hb1⟩ := List.getElem?_eq_some_iff.1 h1
  have hv : s.RES_V = false := h.no_residual (List.ne_nil_of_length_pos (Nat.zero_lt_of_lt hl0))
  obtain ⟨e', hs', hslot⟩ := h.inv.entry_at (by simp [he])
  obtain rfl : e = e' := Option.some.inj (hs.symm.trans hs')
  have htv : (s.takeWord e b0 b1).RES_V = false := by rw [State.takeWord_frame, hv]
  have htb : (s.takeWord e b0 b1).BUF = s.BUF := by rw [State.takeWord_frame]
  have htp : (s.takeWord e b0 b1).POS = s.POS + 2 := by rw [State.takeWord_frame]
  have hpos : (s.POS + 2).toNat = s.POS.toNat + 1 + 1 := by bv_omega
  refine ⟨hslot, rfl, ?_, by simp [htv]⟩
  rw [State.pending_of_no_residual hv, State.pending_of_no_residual htv, htb, htp, hpos,
    List.drop_eq_getElem_cons hl0, List.drop_eq_getElem_cons hl1, hb0, hb1]

/-- R190–R201: the Engine forms a word, or leaves the bytes as they are; at the end of a buffer the lone byte becomes
the residual one. -/
theorem TurnEffect.engine_cases {s t : State} (ht : TurnEffect .engine s t) (h : s.Reassembles) :
    Buffers s [] t ∨ ∃ e b0 b1, FormsWord s e b0 b1 t := by
  cases ht with
  | pass => exact .inl (h.buffers_setEng s.ENG s.reads s.answers)
  | exitLoop => exact .inl (h.buffers_setEng .stopped s.reads s.answers)
  | read => exact .inl (h.buffers_setEng .readPending _ s.answers)
  | word _ he hp b0 b1 e h0 h1 hs => exact .inr ⟨e, b0, b1, h.formsWord he h0 h1 hs hp⟩
  | keepByte _ _ hp _ b hb =>
    obtain ⟨hl, hb⟩ := List.getElem?_eq_some_iff.1 hb
    have hv : s.RES_V = false := h.no_residual (List.ne_nil_of_length_pos (Nat.zero_lt_of_lt hl))
    have hrest : s.BUF.drop s.POS.toNat = [b] := by
      have hlen := h.inv.blen_is_length
      rw [List.drop_eq_getElem_cons hl, hb, List.drop_eq_nil_of_le (by omega)]
    refine .inl ⟨.refl s, rfl, rfl, rfl, rfl, ?_, fun _ => rfl⟩
    rw [State.pending_of_no_residual hv, hrest]
    rfl
  | endBuffer _ _ hp hc =>
    have hrest : s.BUF.drop s.POS.toNat = [] := by
      have hlen := h.inv.blen_is_length
      have hne : s.BLEN.toNat ≠ s.POS.toNat + 1 := fun hl => hc ⟨hl, h.carry⟩
      exact List.drop_eq_nil_of_le (by omega)
    refine .inl ⟨.refl s, rfl, rfl, rfl, rfl, ?_, fun _ => rfl⟩
    unfold State.pending
    rw [hrest, List.append_nil]
    rfl
  | reset | illegal | command | heldStart | emptyChunk | carriedChunk | chunk | goOn | forcedStop | fatal =>
    contradiction

/-- A state of a running session, with no other to come (R210). -/
structure InSession (s : State) : Prop extends s.Reassembles where
  one : s.OneSession
  running : 1 ≤ s.SL_LEN.toNat

theorem bytesTaken_of_transport {s : State} {ts : List Turn} {b : List Byte} (hts : s.turns = .transport b :: ts) :
    s.bytesTaken = if s.ENG = .readPending ∧ b.length ≤ 2 * s.SNAP_W.toNat then b else [] := by
  unfold State.bytesTaken
  rw [hts]

/-- Only the Transport delivers bytes. -/
theorem bytesTaken_of_not_transport {s : State} (h : ∀ b, s.turns.head? ≠ some (.transport b)) :
    s.bytesTaken = [] := by
  unfold State.bytesTaken
  split
  · next b _ hts => exact absurd (by rw [hts]; rfl) (h b)
  · rfl

/-- R210: a step within a session takes in the bytes it is delivered, or forms a word and is delivered none. -/
theorem InSession.step_cases {s t : State} (h : InSession s) (hstep : step s = .next t) :
    ∃ ts, Buffers { s with turns := ts } s.bytesTaken t ∨
      (s.bytesTaken = [] ∧ ∃ e b0 b1, FormsWord { s with turns := ts } e b0 b1 t) := by
  have hre := h.toReassembles
  obtain ⟨hreset, hstop, -, -⟩ := h.one
  obtain ⟨hnil, rfl⟩ | ⟨tn, ts, hts, ht⟩ := Machine.step_cases hstep
  · rw [bytesTaken_of_not_transport (by simp [hnil])]
    exact ⟨t.turns, .inl (hre.buffers_setEng t.ENG t.reads t.answers)⟩
  · refine ⟨ts, ?_⟩
    cases tn with
    | host =>
      rw [bytesTaken_of_not_transport (by simp [hts])]
      obtain hb | ⟨hd, -⟩ := ht.host_cases hts
      · exact absurd hb.takesStart h.one.not_takesStart
      · exact .inl (SameDecoder.buffers (s := { s with turns := ts }) { hd with } (hre.setTurns ts))
    | engine =>
      rw [bytesTaken_of_not_transport (by simp [hts])]
      exact (ht.engine_cases (hre.setTurns ts)).imp_right fun hw => ⟨rfl, hw⟩
    | transport b =>
      rw [step_of_transport hts] at hstep
      rw [bytesTaken_of_transport hts]
      split
      · next ha =>
        rw [transportTurn_of_accepts (s := { s with turns := ts }) ha] at hstep
        exact .inl (chunkArrival_buffers (hre.setTurns ts) ha.1 hstep)
      · next ha =>
        rw [transportTurn_of_not_accepts (s := { s with turns := ts }) ha] at hstep
        cases hstep
        exact .inl ((hre.setTurns ts).buffers_setEng s.ENG s.reads s.answers)
    | consumer c =>
      rw [bytesTaken_of_not_transport (by simp [hts])]
      cases c with
      | false => exact absurd (hts ▸ List.mem_cons_self) hstop
      | true =>
        cases ht with
        | pass => exact .inl ((hre.setTurns ts).buffers_setEng s.ENG s.reads s.answers)
        | goOn => exact .inl ((hre.setTurns ts).buffers_setEng .walk s.reads _)
        | _ => contradiction
    | reset => exact absurd (hts ▸ List.mem_cons_self) hreset

end Sys2Proof.Machine
end

section
/-! SUPPORT. The stream-position law as an invariant of a session (R210): how much of the whole stream a state has used,
kept by every step and so by every run. -/

namespace Sys2Proof.Machine

theorem SameSession.trans {s t u : State} (h : SameSession s t) (h' : SameSession t u) : SameSession s u := by
  obtain ⟨hsl, hlen, hrange, hw, htmo⟩ := h
  obtain ⟨hsl', hlen', hrange', hw', htmo'⟩ := h'
  exact ⟨hsl'.trans hsl, hlen'.trans hlen, hrange'.trans hrange, hw'.trans hw, htmo'.trans htmo⟩

theorem SameSession.slots {s t : State} (h : SameSession s t) : t.slots = s.slots := by
  obtain ⟨hsl, hlen, -⟩ := h
  unfold State.slots
  rw [hsl, hlen]

theorem SameSession.SL_LEN {s t : State} (h : SameSession s t) : t.SL_LEN = s.SL_LEN := by
  obtain ⟨-, hlen, -⟩ := h
  exact hlen

theorem SameSession.SNAP_RANGE {s t : State} (h : SameSession s t) : t.SNAP_RANGE = s.SNAP_RANGE := by
  obtain ⟨-, -, hrange, -⟩ := h
  exact hrange

/-- R33: the scan list has SL_LEN entries. -/
theorem State.Inv.slots_length {s : State} (h : s.Inv) : s.slots.length = s.SL_LEN.toNat := by
  unfold State.slots
  rw [List.length_take, Vector.length_toList]
  exact Nat.min_eq_left h.sl_len_le

theorem FormsWord.cursor_lt {s t : State} {e : Entry} {b0 b1 : Byte} (hw : FormsWord s e b0 b1 t) (h : s.Inv) :
    s.CUR.toNat < s.SL_LEN.toNat :=
  h.slots_length ▸ (List.getElem?_eq_some_iff.1 hw.entry).1

/-- R209: the words of a pass are read from the scan list, the accumulator and the stream only. -/
theorem State.PassHolds.of_eq {s t : State} {ws : List StreamWord} {k c : Nat} (h : s.PassHolds ws k c)
    (hs : t.slots = s.slots) (ha : t.ACC = s.ACC) : t.PassHolds ws k c := by
  unfold State.PassHolds
  rw [hs, ha]
  exact h

/-- R210: in the session of s, whose whole stream is d, the state t has closed k passes and taken CUR words of the next;
of the stream there are left the bytes t still has to form into words and then those of `rest`. -/
structure StreamAt (s : State) (d : List Byte) (k : Nat) (t : State) (rest : List Byte) : Prop where
  session : SameSession s t
  bytes : ∃ used, used.length = 2 * (k * s.SL_LEN.toNat + t.CUR.toNat) ∧ d = used ++ (t.pending ++ rest)
  pass : t.PassHolds (wordsOf d) k t.CUR.toNat
  recs : t.recs = s.recs ++ (List.range k).map fun j => (streamRecord s.slots s.SNAP_RANGE (wordsOf d) j).pack
  PKT : t.PKT = BitVec.ofNat 64 k

/-- R210: a session at its start has used nothing. -/
theorem StreamAt.of_freshSession {s : State} (h : s.FreshSession) (d : List Byte) : StreamAt s d 0 s d := by
  obtain ⟨-, hcur, hpkt, hres, hbuf, -⟩ := h
  refine ⟨.refl s, ⟨[], by simp [hcur], ?_⟩, ?_, by simp, hpkt⟩
  · rw [State.pending_of_no_residual hres, hbuf]
    simp
  · intro i e hi
    simp [hcur] at hi

section
variable {s t t' : State} {d rest : List Byte} {k : Nat}

theorem StreamAt.buffers {b : List Byte} (h : StreamAt s d k t (b ++ rest)) (hb : Buffers t b t') :
    StreamAt s d k t' rest where
  session := h.session.trans hb.session
  bytes := by
    rw [hb.CUR, hb.pending, List.append_assoc]
    exact h.bytes
  pass := by
    rw [hb.CUR]
    exact h.pass.of_eq hb.session.slots hb.ACC
  recs := hb.recs.trans h.recs
  PKT := hb.PKT.trans h.PKT

/-- R195, R210: the word that is formed next is that of the stream at this place. -/
theorem StreamAt.word {b0 b1 : Byte} {left : List Byte} (h : StreamAt s d k t rest)
    (hp : t.pending = b0 :: b1 :: left) :
    (wordsOf d)[k * s.SL_LEN.toNat + t.CUR.toNat]? = some (wordOf b0 b1) := by
  obtain ⟨used, hlen, rfl⟩ := h.bytes
  rw [hp]
  exact wordsOf_getElem? hlen

/-- R195, R210: two bytes of the stream are used for one more word. -/
theorem StreamAt.bytes_of_word {e : Entry} {b0 b1 : Byte} (h : StreamAt s d k t rest) (hw : FormsWord t e b0 b1 t') :
    ∃ used, used.length = 2 * (k * s.SL_LEN.toNat + t.CUR.toNat + 1) ∧ d = used ++ (t'.pending ++ rest) := by
  obtain ⟨used, hlen, hd⟩ := h.bytes
  refine ⟨used ++ [b0, b1], ?_, ?_⟩
  · rw [List.length_append, hlen]
    rfl
  · rw [hd, hw.pending]
    simp

/-- R198, R210: the accumulator then holds one word more of the pass. -/
theorem StreamAt.pass_of_word {e : Entry} {b0 b1 : Byte} (h : StreamAt s d k t rest) (hinv : t.Inv)
    (hw : FormsWord t e b0 b1 t') :
    State.PassHolds { t with ACC := t.ACC.update e (wordOf b0 b1) } (wordsOf d) k (t.CUR.toNat + 1) := by
  refine h.pass.update hinv hw.entry ?_
  rw [hinv.slots_length, h.session.SL_LEN]
  exact h.word hw.pending

/-- R199, R210: a word step below the last slot. -/
theorem StreamAt.next {e : Entry} {b0 b1 : Byte} (h : StreamAt s d k t rest) (hinv : t.Inv)
    (hw : FormsWord t e b0 b1 t') (hn : t.CUR + 1 ≠ t.SL_LEN) :
    StreamAt s d k t' rest := by
  have hbytes := h.bytes_of_word hw
  have hcur := hw.cursor_lt hinv
  have heq : t' = { t with
      POS := t.POS + 2, ACC := t.ACC.update e (wordOf b0 b1), CUR := t.CUR + 1 } :=
    hw.eq.trans (State.advance_next hn)
  have hcur' : t'.CUR.toNat = t.CUR.toNat + 1 := by
    rw [heq]
    show (t.CUR + 1).toNat = _
    bv_omega
  refine ⟨h.session.trans (hw.eq ▸ .takeWord t e b0 b1), hcur' ▸ hbytes, ?_, ?_, ?_⟩
  · rw [hcur']
    exact (h.pass_of_word hinv hw).of_eq (by rw [heq]; rfl) (by rw [heq])
  · rw [heq]
    exact h.recs
  · rw [heq]
    exact h.PKT

/-- R200, R210: the word step at the last slot closes the pass with the record of the stream. -/
theorem StreamAt.close {e : Entry} {b0 b1 : Byte} (h : StreamAt s d k t rest) (hinv : t.Inv)
    (hw : FormsWord t e b0 b1 t') (hn : t.CUR + 1 = t.SL_LEN) :
    StreamAt s d (k + 1) t' rest := by
  have hbytes := h.bytes_of_word hw
  have hcur := hw.cursor_lt hinv
  have hlast : t.CUR.toNat + 1 = t.SL_LEN.toNat := by bv_omega
  have heq : t' = State.emitRecord { t with
      POS := t.POS + 2, ACC := t.ACC.update e (wordOf b0 b1), CUR := 0 } := hw.eq.trans (State.advance_wrap hn)
  have hcur' : t'.CUR.toNat = 0 := by
    rw [heq]
    rfl
  have hrecord : State.record { t with POS := t.POS + 2, ACC := t.ACC.update e (wordOf b0 b1), CUR := 0 } =
      streamRecord s.slots s.SNAP_RANGE (wordsOf d) k := by
    rw [← h.session.slots, ← h.session.SNAP_RANGE]
    refine State.record_eq_streamRecord (ws := wordsOf d) ?_ h.PKT
    have hpass := h.pass_of_word hinv hw
    rw [hlast, ← hinv.slots_length] at hpass
    exact hpass
  have hpasses : k * s.SL_LEN.toNat + t.CUR.toNat + 1 = (k + 1) * s.SL_LEN.toNat := by
    rw [Nat.add_assoc, hlast, h.session.SL_LEN, Nat.succ_mul]
  refine ⟨h.session.trans (hw.eq ▸ .takeWord t e b0 b1), ?_, ?_, ?_, ?_⟩
  · rw [hcur', Nat.add_zero, ← hpasses]
    exact hbytes
  · rw [hcur']
    intro i e hi
    exact absurd hi (Nat.not_lt_zero i)
  · rw [heq, State.emitRecord_recs, hrecord, List.range_succ, List.map_append, ← List.append_assoc, ← h.recs]
    rfl
  · rw [heq, State.emitRecord_PKT, BitVec.ofNat_add, ← h.PKT]
    rfl

/-- R210: every step within a session keeps the place in the stream, of which it takes the bytes it is delivered. -/
theorem StreamAt.step (h : StreamAt s d k t (t.bytesTaken ++ rest)) (ht : InSession t) (hstep : step t = .next t') :
    ∃ k', StreamAt s d k' t' rest := by
  obtain ⟨ts, hb | ⟨hnone, e, b0, b1, hw⟩⟩ := ht.step_cases hstep
  · exact ⟨k, StreamAt.buffers (t := { t with turns := ts }) { h with } hb⟩
  · rw [hnone] at h
    have hat : StreamAt s d k { t with turns := ts } rest := { h with }
    have hinv := ht.inv.inputs ts t.cmds
    by_cases hn : t.CUR + 1 = t.SL_LEN
    · exact ⟨k + 1, hat.close hinv hw hn⟩
    · exact ⟨k, hat.next hinv hw hn⟩

end

/-- R210: a step within a session leaves a state of the session. -/
theorem InSession.step {s t : State} (h : InSession s) (hstep : step s = .next t) : InSession t := by
  have hlen : t.SL_LEN = s.SL_LEN ∧ (t.RES_V = true → t.BUF = []) := by
    obtain ⟨ts, hb | ⟨-, e, b0, b1, hw⟩⟩ := h.step_cases hstep
    · exact ⟨hb.session.SL_LEN, hb.residual⟩
    · exact ⟨hw.eq ▸ (SameSession.takeWord { s with turns := ts } e b0 b1).SL_LEN, hw.residual⟩
  exact {
    inv := stepKeepsTheInvariant s t h.inv hstep
    carry := step_params hstep ▸ h.carry
    residual := hlen.2
    one := h.one.step hstep
    running := hlen.1 ▸ h.running }

/-- R36: during a session the cursor names a slot in use. -/
theorem InSession.cursor_lt {s : State} (h : InSession s) : s.CUR.toNat < s.SL_LEN.toNat := by
  have hpos := h.running
  obtain hlt | ⟨-, hzero⟩ := h.inv.cursor_in_list
  · exact hlt
  · simp [hzero] at hpos

/-- R210: the bytes delivered over a run are those of its first step and those of the rest. -/
theorem delivered_succ {s t : State} (n : Nat) (h : step s = .next t) :
    delivered (n + 1) s = s.bytesTaken ++ delivered n t := by
  simp only [delivered, h]

/-- A run that goes on took a step that did. -/
theorem run_succ {s u : State} {n : Nat} (h : Host.Core.run core (n + 1) s = .next u) :
    ∃ t, step s = .next t ∧ Host.Core.run core n t = .next u := by
  simp only [Host.Core.run] at h
  split at h
  · next t ht => exact ⟨t, ht, h⟩
  · contradiction
  · contradiction

/-- R210: a run within a session uses what it is delivered. -/
theorem StreamAt.run {s u : State} {d : List Byte} :
    ∀ {n k : Nat} {t : State}, StreamAt s d k t (delivered n t) → InSession t → Host.Core.run core n t = .next u →
      InSession u ∧ ∃ k', StreamAt s d k' u [] := by
  intro n
  induction n with
  | zero =>
    intro k t h ht hrun
    cases hrun
    exact ⟨ht, k, h⟩
  | succ n ih =>
    intro k t h ht hrun
    obtain ⟨t', hstep, hrun'⟩ := run_succ hrun
    rw [delivered_succ n hstep] at h
    obtain ⟨k', h'⟩ := h.step ht hstep
    exact ih h' (ht.step hstep) hrun'

/-- Settles O60: the run uses the stream from its start to its end, with k passes closed and CUR words of the next
taken; so m is k · SL_LEN + CUR. -/
theorem recordsAreThoseOfTheStream : Obligations.RecordsAreThoseOfTheStream := by
  intro s t n hinv hfresh hone hcarry hrun
  have ⟨htop, _, _, hres, _⟩ := hfresh
  have hs : InSession s :=
    { inv := hinv, carry := hcarry, residual := by simp [hres], one := hone
      running := hinv.sl_len_pos (by simp [htop]) }
  obtain ⟨ht, k, hk⟩ := (StreamAt.of_freshSession hfresh (delivered n s)).run hs hrun
  obtain ⟨used, hused, hd⟩ := hk.bytes
  have hcur : t.CUR.toNat < s.SL_LEN.toNat := hk.session.SL_LEN ▸ ht.cursor_lt
  have hdiv : (k * s.SL_LEN.toNat + t.CUR.toNat) / s.SL_LEN.toNat = k := by
    rw [Nat.mul_comm, Nat.mul_add_div hs.running, Nat.div_eq_of_lt hcur, Nat.add_zero]
  have hmod : (k * s.SL_LEN.toNat + t.CUR.toNat) % s.SL_LEN.toNat = t.CUR.toNat := by
    rw [Nat.mul_add_mod_self_right, Nat.mod_eq_of_lt hcur]
  refine ⟨k * s.SL_LEN.toNat + t.CUR.toNat, ?_, ?_, hmod.symm, ?_⟩
  · rw [hd, List.append_nil, List.length_append, hused, t.pending_length]
  · rw [hdiv]
    exact hk.recs
  · rw [hdiv]
    exact hk.PKT

end Sys2Proof.Machine
end

section
/-! SUPPORT. Value conversion (R240–R246): the range of a count and of the two fixed-point results, the frequencies of
R240, and the record-level conversions as functions of a record word's fields. -/

namespace Sys2Proof.Machine

/-! ## Counts, their voltages and the numbers of a response -/

/-- R10: the range of `s16`. -/
theorem s16_bounds (b : StreamWord) : -32768 ≤ s16 b ∧ s16 b ≤ 32767 :=
  ⟨b.le_toInt, Int.le_of_lt_add_one b.toInt_lt⟩

/-- R10: an unsigned value that 56 bits hold is read back from its pattern. -/
theorem zext56_toNat {n : Nat} (h : n < 2 ^ 56) : (zext56 n).toNat = n := Nat.mod_eq_of_lt h

/-- R10: a signed value that 56 bits hold is read back from its pattern. -/
theorem sext56_toInt {z : Int} (hlo : -2 ^ 55 ≤ z) (hhi : z < 2 ^ 55) : (sext56 z).toInt = z :=
  BitVec.toInt_ofInt_eq_self (by decide) hlo hhi

/-- R241: the range of the voltage of a count. -/
theorem voltQ15_bounds (b : StreamWord) : -327680 ≤ voltQ15 (s16 b) ∧ voltQ15 (s16 b) ≤ 327670 := by
  obtain ⟨hlo, hhi⟩ := s16_bounds b
  simp only [voltQ15, Config.VOLT_FS_NUM]
  omega

/-! ## The range frequencies and the frequency of a count -/

/-- R240: no frequency from code 12 up. -/
theorem rangeHz_of_reserved {k : BitVec 4} (h : 12 ≤ k.toNat) : rangeHz k = none := List.getElem?_eq_none h

/-- R240: the greatest range frequency is that of code 0. -/
theorem rangeHz_le {k : BitVec 4} {hz : Nat} (h : rangeHz k = some hz) : hz ≤ 50000 :=
  (by decide : ∀ f ∈ rangeNames, f ≤ 50000) hz (List.mem_of_getElem? h)

/-- R243: the count enters the frequency without truncation, since s16 + 32768 is not negative. -/
theorem freqQ16_cast (b : StreamWord) (hz : Nat) : (freqQ16 (s16 b) hz : Int) = (b.toInt + 32768) * hz := by
  have hcount : ((s16 b + 32768).toNat : Int) = b.toInt + 32768 :=
    Int.toNat_of_nonneg (by have := (s16_bounds b).1; omega)
  rw [freqQ16, Nat.cast_mul, hcount]

/-- R243: the greatest frequency is that of the greatest count at the greatest range frequency. -/
theorem freqQ16_le (b : StreamWord) {hz : Nat} (h : hz ≤ 50000) : freqQ16 (s16 b) hz ≤ 3276750000 := by
  have hcount : (s16 b + 32768).toNat ≤ 65535 := by have := (s16_bounds b).2; omega
  exact Nat.mul_le_mul hcount h

/-! ## The record-level conversions -/

/-- R14, R88: a field whose presence bit is 0 is absent. -/
theorem fieldAt_absent {w : RecWord} {p : Nat} (h : w.getLsbD p = false) (lo n : Nat) : fieldAt w p lo n = none := by
  simp [fieldAt, h]

/-- R14, R88: a field whose presence bit is 1 has its value bits. -/
theorem fieldAt_present {w : RecWord} {p : Nat} (h : w.getLsbD p = true) (lo n : Nat) :
    fieldAt w p lo n = some (w.extractLsb' lo n) := if_pos h

/-- R245: the voltage of an analog input is that of its field. -/
theorem recVoltage_eq_map (w : RecWord) (c : Fin 8) :
    recVoltage w c = (fieldAt w (236 + c.val) (64 + 16 * c.val) 16).map fun a => voltQ15 (s16 a) := by
  rw [recVoltage, unpackRecord_A_get]

/-- R246: no frequency without a rate field. -/
theorem recFrequency_of_absent {w : RecWord} (h : fieldAt w 245 200 16 = none) : recFrequency w = none := by
  have hRT : (unpackRecord w).RT = none := h
  unfold recFrequency
  rw [hRT]

/-- R246: the frequency of a rate field at the record's own range. -/
theorem recFrequency_of_present {w : RecWord} {rt : StreamWord} {hz : Nat} (h : fieldAt w 245 200 16 = some rt)
    (hr : rangeHz (w.extractLsb' 232 4) = some hz) : recFrequency w = some (freqQ16 (s16 rt) hz) := by
  have hRT : (unpackRecord w).RT = some rt := h
  have hRANGE : rangeHz (unpackRecord w).RANGE = some hz := hr
  unfold recFrequency
  rw [hRT, hRANGE]

/-! ## The obligations -/

/-- Settles O34: the voltage is in its bounds (`voltQ15_bounds`), so its 56-bit pattern reads back as itself. -/
theorem cvtvAnswersTheVoltage : Obligations.CvtvAnswersTheVoltage := by
  intro cnt s
  obtain ⟨hlo, hhi⟩ := voltQ15_bounds cnt
  have hd : (sext56 (voltQ15 (s16 cnt))).toInt = voltQ15 (s16 cnt) := sext56_toInt (by omega) (by omega)
  refine ⟨encode_of_field (op := 0x30) rfl (by decide) rfl (by decide), sext56 (voltQ15 (s16 cnt)), rfl, ?_⟩
  rw [hd]
  exact ⟨rfl, hlo, hhi⟩

/-- Settles O35: each row of R240's table is `rangeHz` of its code, and the frequency is at most 3276750000
(`freqQ16_le`), so 56 bits hold it. -/
theorem cvtfAnswersTheFrequency : Obligations.CvtfAnswersTheFrequency := by
  refine fun cnt rng s => ⟨encode_of_two_fields (op := 0x31) rfl (by decide) rfl (by decide),
    fun hr => execCvtf_of_none (rangeHz_of_reserved hr) cnt s, fun p hp hcode => ?_⟩
  have hhz : rangeHz rng = some p.2 := by
    rw [rangeHz, hcode]
    clear hcode
    revert p
    decide
  have hle : freqQ16 (s16 cnt) p.2 ≤ 3276750000 := freqQ16_le cnt (rangeHz_le hhz)
  have hd : (zext56 (freqQ16 (s16 cnt) p.2)).toNat = freqQ16 (s16 cnt) p.2 :=
    zext56_toNat (hle.trans_lt (by decide))
  refine ⟨zext56 (freqQ16 (s16 cnt) p.2), execCvtf_of_some hhz cnt s, ?_⟩
  rw [hd]
  exact ⟨freqQ16_cast cnt p.2, hle⟩

/-- Settles O36: a field of a record word is absent or present by its presence bit (`fieldAt_absent`,
`fieldAt_present`), and the conversions follow it. -/
theorem recordConversions : Obligations.RecordConversions := by
  refine fun w c => ⟨fun h => ?_, fun h => ?_, fun h => recFrequency_of_absent (fieldAt_absent h 200 16),
    fun hz hr h => ⟨_, recFrequency_of_present (fieldAt_present h 200 16) hr, freqQ16_cast _ hz⟩⟩
  · rw [recVoltage_eq_map, fieldAt_absent h, Option.map_none]
  · rw [recVoltage_eq_map, fieldAt_present h, Option.map_some]
    rfl

end Sys2Proof.Machine
end

section
/-! SUPPORT. What an error answer says of the command that gave it (R261): of the effects of `exec_cases` only one
answers with a status other than OK. -/

namespace Sys2Proof.Machine

/-- R81: the answer last appended to a response log determines its status and its data. -/
theorem append_rspWord_inj {l : List RspWord} {st st' : Status} {d d' : Field56}
    (h : l ++ [rspWord st d] = l ++ [rspWord st' d']) : st = st' ∧ d = d' :=
  rspWord_inj (List.singleton_inj.1 (List.append_cancel_left h))

/-- R261: a command that gives an error answer has raised that error, and done nothing else. Every other effect answers
with OK, or gives no answer (a START that holds or waits on, R162). -/
theorem CommandEffect.eq_raise {i : Instr} {s t : State} {st : Status} {d : Field56} (h : CommandEffect i s t)
    (hr : t.rsps = s.rsps ++ [rspWord st d]) (hst : st ≠ .ok) : d = 0 ∧ t = s.raise st := by
  have not_ok {d' : Field56} (hok : s.rsps ++ [rspWord .ok d'] = s.rsps ++ [rspWord st d]) : False :=
    hst (append_rspWord_inj hok).1.symm
  have not_silent (hs : s.rsps = s.rsps ++ [rspWord st d]) : False :=
    List.cons_ne_nil _ _ (List.self_eq_append_right.1 hs)
  cases h with
  | error st' =>
    obtain ⟨rfl, rfl⟩ := append_rspWord_inj hr
    exact ⟨rfl, rfl⟩
  | answer => exact (not_ok hr).elim
  | config u d' hu =>
    rw [State.respond_rsps, hu.rsps] at hr
    exact (not_ok hr).elim
  | stop => exact (not_ok hr).elim
  | hold => exact (not_silent hr).elim
  | wait => exact (not_silent hr).elim
  | start => exact (not_ok ((State.beginSession_rsps s).symm.trans hr)).elim

/-- Settles O46: the command's effect is the raise of its error (`CommandEffect.eq_raise`), which writes only the
response log. -/
theorem errorChangesNoState : Obligations.ErrorChangesNoState := by
  intro i s t st d ht hr hst
  obtain ⟨hd, rfl⟩ := (exec_cases ht).eq_raise hr hst
  exact ⟨hd, rfl⟩

end Sys2Proof.Machine
end

section
/-! SUPPORT. Reset (R290, R291), and the configuration registers while SCAN = Scanning (R297): what leaves them as they
are, said once per operation, then per command and per turn. -/

namespace Sys2Proof.Machine

/-! ## Reset -/

/-- R290: a step on a reset turn is the reset, with the turn taken off the list. -/
theorem step_of_reset {s : State} {ts : List Turn} (h : s.turns = .reset :: ts) :
    step s = resetTurn { s with turns := ts } := by
  unfold step nextTurn
  rw [h]
  rfl

/-- R37: every analog field of the cleared accumulator is 0. -/
theorem Acc.zero_A_get (c : Fin 8) : Acc.zero.A.get c = 0 := Vector.getElem_replicate c.isLt

/-- R33: every slot of the scan-list file after reset is the cleared entry. -/
theorem State.reset_SL_get (i : Fin 11) : State.reset.SL.get i = .analog 0 := Vector.getElem_replicate i.isLt

/-! ## The configuration registers -/

theorem SameConfig.refl (s : State) : SameConfig s s := ⟨rfl, rfl, rfl, rfl, rfl, rfl, rfl, rfl, rfl⟩

theorem SameConfig.beginSession (s : State) : SameConfig s s.beginSession := by
  simp [SameConfig]

/-- R199: the cursor goes on, or the pass closes with a record. -/
theorem SameConfig.advance (s : State) : SameConfig s s.advance := by
  unfold State.advance
  split
  · simp [SameConfig]
  · exact .refl s

theorem SameConfig.takeWord (s : State) (e : Entry) (b0 b1 : Byte) : SameConfig s (s.takeWord e b0 b1) :=
  SameConfig.advance { s with POS := s.POS + 2, ACC := s.ACC.update e (wordOf b0 b1) }

/-- R110: with SCAN = Scanning no command has the effect of a mutator's write. -/
theorem CommandEffect.sameConfig {i : Instr} {s t : State} (h : CommandEffect i s t) (hs : s.SCAN = .scanning) :
    SameConfig s t := by
  cases h with
  | config u d hu => exact absurd hu.idle (by simp [hs])
  | start => exact .beginSession s
  | error | answer | stop | hold | wait => exact .refl s

/-- R297: a command keeps the configuration registers by its gate, and no other turn but reset writes one. -/
theorem TurnEffect.sameConfig {tn : Turn} {s t : State} (hr : tn ≠ .reset) (h : TurnEffect tn s t)
    (hs : s.SCAN = .scanning) : SameConfig s t := by
  cases h with
  | reset h => exact absurd h hr
  | command _ _ w ws _ i _ _ ht => exact ht.sameConfig hs
  | heldStart => exact .beginSession s
  | word _ _ _ b0 b1 e => exact .takeWord s e b0 b1
  | forcedStop => simp [SameConfig]
  | pass | illegal | exitLoop | read | emptyChunk | carriedChunk | chunk | keepByte | endBuffer | goOn | fatal =>
    exact .refl s

/-! ## The obligations -/

/-- Settles O51: of the turns but reset only a mutator's command would write one, and SCAN = Scanning excludes it. -/
theorem configIsFrozenWhileScanning : Obligations.ConfigIsFrozenWhileScanning := by
  intro s t hr hs h
  obtain ⟨-, rfl⟩ | ⟨tn, ts, hts, ht⟩ := step_cases h
  · exact .refl t
  · have htn : tn ≠ .reset := fun he => hr (by rw [hts, he]; rfl)
    exact TurnEffect.sameConfig (s := { s with turns := ts }) htn ht hs

/-- Settles O10: the step is the reset turn, which writes `State.reset` beside the parameters and the inputs still to
come. -/
theorem resetTurnResetsEveryRegister : Obligations.ResetTurnResetsEveryRegister :=
  fun _ _ h => step_of_reset h

/-- Settles O11: the registers are read off `State.reset`; the derived NINPUTS and ENDO are computed from its enables. -/
theorem resetValues : Obligations.ResetValues := by
  have hinputs : inputCount State.reset = 0 := by decide
  have hendo : State.reset.ENDO = 0x7F := by decide
  exact ⟨rfl, rfl, hendo, rfl, rfl, rfl, hinputs, rfl, rfl, rfl, rfl, rfl, rfl,
    fun i => congrArg Entry.tag (State.reset_SL_get i), rfl, rfl, rfl, rfl, rfl, Acc.zero_A_get, rfl, rfl, rfl, rfl, rfl,
    rfl, rfl, rfl, rfl, rfl, rfl⟩

/-- Settles O57: each clause of the invariant holds of `State.reset` (`State.reset_inv`). -/
theorem resetMeetsTheInvariant : Obligations.ResetMeetsTheInvariant := State.reset_inv

end Sys2Proof.Machine
end
